-- ==== Sys2Proof/Word.lean ====
section
/-! DEFINITION. The widths the spec gives bits, each a named parameter of R6 of 00_scope.md, and the types of those widths. -/

namespace Sys2Proof

/-! ## Widths (R6; the width of the cylinder fields is D3's) -/

/-- `REG_BITS`: width of one data-port transfer and of one register byte lane. -/
abbrev Config.regBits : Nat := 8
/-- `PTR_BITS`: number of low bits of a written value that load the pointer. -/
abbrev Config.ptrBits : Nat := 7
/-- `PTR_MOD`: the pointer holds 0 to `PTR_MOD - 1` and goes up modulo `PTR_MOD` (C2). -/
abbrev Config.ptrMod : Nat := 2 ^ Config.ptrBits
/-- `OPCODE_BITS`: width of a command opcode. -/
abbrev Config.opcodeBits : Nat := 8
/-- `TC_BITS`: width of the transfer count. -/
abbrev Config.tcBits : Nat := 24
/-- `LA_BITS`: width of the logical address (C1). -/
abbrev Config.laBits : Nat := 32
/-- Width of total cylinders and of cylinder number (R23 of 10_state.md, D3). -/
abbrev Config.cylBits : Nat := 16
/-- `CTRL_DMA_HI`: highest bit of the DMA-mode field of `control`. -/
abbrev Config.ctrlDmaHi : Nat := 7
/-- `CTRL_DMA_LO`: lowest bit of the DMA-mode field of `control`. -/
abbrev Config.ctrlDmaLo : Nat := 5

/-! ## Types -/

/-- One data-port transfer and one register byte lane. -/
abbrev Byte := BitVec Config.regBits

/-- A register index, the contents of the current-register pointer (R24 of 10_state.md). -/
abbrev Index := BitVec Config.ptrBits

/-- A command opcode (R104 of 30_encoding.md). -/
abbrev Opcode := BitVec Config.opcodeBits

/-- The DMA mode, `control[CTRL_DMA_HI : CTRL_DMA_LO]` (R93 of 30_encoding.md). -/
abbrev DmaMode := BitVec (Config.ctrlDmaHi - Config.ctrlDmaLo + 1)

/-- The abstract 10-bit word that stands for one host access (R90 of 30_encoding.md). -/
abbrev AccessWord := BitVec 10

end Sys2Proof
end

