-- ==== Sys2Proof/Config.lean ====
section
/-! DEFINITION. The parameters of the spec (R6, R7 of 00_scope.md), the opaque handles of the SCSI bus, and the free values:
what the environment answers and the masks the spec leaves open. -/

namespace Sys2Proof

/-- Opaque device handle of the SCSI bus: compared with none and passed back to the bus, nothing else (R35 of 10_state.md,
R298 of 45_scsi_bus_adapter.md). -/
structure DevHandle where
  id : Nat
deriving DecidableEq, Repr, Inhabited

/-- Opaque logical-unit handle of the SCSI bus (R35, R298). -/
structure LunHandle where
  id : Nat
deriving DecidableEq, Repr, Inhabited

/-- Opaque request handle of the SCSI bus (R35, R292 of 45_scsi_bus_adapter.md). -/
structure ReqHandle where
  id : Nat
deriving DecidableEq, Repr, Inhabited

/-! ## Parameters whose value the source gives (R6); the widths stand in Word.lean -/

/-- `OFF_ADDR`: byte offset of the address-pointer port from `BASE`. -/
def Config.offAddr : Nat := 0x00
/-- `OFF_DATA`: byte offset of the data port from `BASE`. -/
def Config.offData : Nat := 0x01
/-- `FIFO_CAP`: capacity of the byte queue in bytes. -/
abbrev Config.fifoCap : Nat := 12
/-- `AUX_DBR`: the data-buffer-ready bit of auxiliary status. -/
abbrev Config.auxDbr : Byte := 0x01#8
/-- `AUX_INT`: the interrupt-pending bit of auxiliary status. -/
abbrev Config.auxInt : Byte := 0x80#8
/-- `IDX_LIMIT`: highest index that can name a register. -/
def Config.idxLimit : Nat := 0x1f
/-- `NREGS`: number of defined register indices. -/
def Config.nRegs : Nat := 27

/-! ## Register indices `IDX_*` (R22 of 10_state.md): defaults of the spec, PRESUMED, unsafe (log 1) -/

/-- `IDX_OWN_ID` (R125). -/
def Config.idxOwnId : Index := 0x00#7
/-- `IDX_CONTROL` (R126). -/
def Config.idxControl : Index := 0x01#7
/-- `IDX_TIMEOUT_PERIOD` (R127). -/
def Config.idxTimeoutPeriod : Index := 0x02#7
/-- `IDX_TOTAL_SECTORS` (R128). -/
def Config.idxTotalSectors : Index := 0x03#7
/-- `IDX_TOTAL_HEADS` (R129). -/
def Config.idxTotalHeads : Index := 0x04#7
/-- `IDX_TOTAL_CYL_MSB` (R130). -/
def Config.idxTotalCylMsb : Index := 0x05#7
/-- `IDX_TOTAL_CYL_LSB` (R131). -/
def Config.idxTotalCylLsb : Index := 0x06#7
/-- `IDX_LOG_ADDR_MSB` (R132). -/
def Config.idxLogAddrMsb : Index := 0x07#7
/-- `IDX_LOG_ADDR_2ND` (R133). -/
def Config.idxLogAddr2nd : Index := 0x08#7
/-- `IDX_LOG_ADDR_3RD` (R134). -/
def Config.idxLogAddr3rd : Index := 0x09#7
/-- `IDX_LOG_ADDR_LSB` (R135). -/
def Config.idxLogAddrLsb : Index := 0x0a#7
/-- `IDX_SECTOR_NUMBER` (R136). -/
def Config.idxSectorNumber : Index := 0x0b#7
/-- `IDX_HEAD_NUMBER` (R137). -/
def Config.idxHeadNumber : Index := 0x0c#7
/-- `IDX_CYL_NUMBER_MSB` (R138). -/
def Config.idxCylNumberMsb : Index := 0x0d#7
/-- `IDX_CYL_NUMBER_LSB` (R139). -/
def Config.idxCylNumberLsb : Index := 0x0e#7
/-- `IDX_TARGET_LUN` (R140). -/
def Config.idxTargetLun : Index := 0x0f#7
/-- `IDX_COMMAND_PHASE` (R141). -/
def Config.idxCommandPhase : Index := 0x10#7
/-- `IDX_SYNC_TRANSFER` (R142). -/
def Config.idxSyncTransfer : Index := 0x11#7
/-- `IDX_TC_MSB` (R143). -/
def Config.idxTcMsb : Index := 0x12#7
/-- `IDX_TC_MID` (R144). -/
def Config.idxTcMid : Index := 0x13#7
/-- `IDX_TC_LSB` (R145). -/
def Config.idxTcLsb : Index := 0x14#7
/-- `IDX_DESTINATION_ID` (R146). -/
def Config.idxDestinationId : Index := 0x15#7
/-- `IDX_SOURCE_ID` (R147). -/
def Config.idxSourceId : Index := 0x16#7
/-- `IDX_SCSI_STATUS` (R148). -/
def Config.idxScsiStatus : Index := 0x17#7
/-- `IDX_COMMAND` (R149). -/
def Config.idxCommand : Index := 0x18#7
/-- `IDX_DATA` (R150). -/
def Config.idxData : Index := 0x19#7
/-- `IDX_AUX_STATUS` (R151). -/
def Config.idxAuxStatus : Index := 0x1f#7

/-! ## Command opcodes `OP_*` (R104 of 30_encoding.md): defaults of the spec, PRESUMED, unsafe (log 1) -/

/-- `OP_RESET` (R201). -/
def Config.opReset : Opcode := 0x00#8
/-- `OP_ABORT` (R233). -/
def Config.opAbort : Opcode := 0x01#8
/-- `OP_ASSERT_ATN` (R205). -/
def Config.opAssertAtn : Opcode := 0x02#8
/-- `OP_NEGATE_ACK` (R206). -/
def Config.opNegateAck : Opcode := 0x03#8
/-- `OP_DISCONNECT` (R207). -/
def Config.opDisconnect : Opcode := 0x04#8
/-- `OP_RESELECT` (R208). -/
def Config.opReselect : Opcode := 0x05#8
/-- `OP_SEL_ATN` (R224). -/
def Config.opSelAtn : Opcode := 0x06#8
/-- `OP_SEL` (R225). -/
def Config.opSel : Opcode := 0x07#8
/-- `OP_SEL_ATN_XFER` (R226). -/
def Config.opSelAtnXfer : Opcode := 0x08#8
/-- `OP_SEL_XFER` (R227). -/
def Config.opSelXfer : Opcode := 0x09#8
/-- `OP_RESEL_RECEIVE` (R209). -/
def Config.opReselReceive : Opcode := 0x0a#8
/-- `OP_RESEL_SEND` (R210). -/
def Config.opReselSend : Opcode := 0x0b#8
/-- `OP_WAIT_SEL_RECEIVE` (R211). -/
def Config.opWaitSelReceive : Opcode := 0x0c#8
/-- `OP_SEND_STATUS_CMD_COMPLETE` (R212). -/
def Config.opSendStatusCmdComplete : Opcode := 0x0d#8
/-- `OP_SEND_DISCONNECT` (R213). -/
def Config.opSendDisconnect : Opcode := 0x0e#8
/-- `OP_SET_IDI` (R233). -/
def Config.opSetIdi : Opcode := 0x0f#8
/-- `OP_RCV_CMD` (R214). -/
def Config.opRcvCmd : Opcode := 0x10#8
/-- `OP_RCV_DATA` (R215). -/
def Config.opRcvData : Opcode := 0x11#8
/-- `OP_RCV_MSG_OUT` (R216). -/
def Config.opRcvMsgOut : Opcode := 0x12#8
/-- `OP_RCV` (R217). -/
def Config.opRcv : Opcode := 0x13#8
/-- `OP_SND_STATUS` (R218). -/
def Config.opSndStatus : Opcode := 0x14#8
/-- `OP_SND_DATA` (R219). -/
def Config.opSndData : Opcode := 0x15#8
/-- `OP_SND_MSG_IN` (R220). -/
def Config.opSndMsgIn : Opcode := 0x16#8
/-- `OP_SND` (R221). -/
def Config.opSnd : Opcode := 0x17#8
/-- `OP_TRANSLATE_ADDR` (R222). -/
def Config.opTranslateAddr : Opcode := 0x18#8
/-- `OP_TRANSFER_INFO` (R228). -/
def Config.opTransferInfo : Opcode := 0x20#8

/-! ## SCSI status code bits and codes (R94 of 30_encoding.md): defaults of the spec, PRESUMED, unsafe (log 1) -/

/-- `ST_COMPLETION`. -/
def Config.stCompletion : Byte := 0x10#8
/-- `ST_SELECTED`. -/
def Config.stSelected : Byte := 0x01#8
/-- `ST_PHASE_CHANGE`. -/
def Config.stPhaseChange : Byte := 0x08#8
/-- `ST_PHASE_DATAOUT`. -/
def Config.stPhaseDataOut : Byte := 0x00#8
/-- `ST_PHASE_DATAIN`. -/
def Config.stPhaseDataIn : Byte := 0x01#8
/-- `ST_SELECT_COMPLETE`: a Select command found its target. -/
def Config.stSelectComplete : Byte := Config.stCompletion ||| Config.stSelected
/-- `ST_XFER_DONE_DATAOUT`: a bus completion enters `CompleteDataOut`. -/
def Config.stXferDoneDataOut : Byte := Config.stCompletion ||| Config.stPhaseChange ||| Config.stPhaseDataOut
/-- `ST_XFER_DONE_DATAIN`: a bus completion enters `CompleteDataIn`. -/
def Config.stXferDoneDataIn : Byte := Config.stCompletion ||| Config.stPhaseChange ||| Config.stPhaseDataIn

/-- `DMA_MODE_POLLED`: the value of `control[7:5]` that means polled (R93; D12); PRESUMED, unsafe (log 1). -/
def Config.dmaModePolled : DmaMode := 0#3

/-! ## Free values: no body, so nothing can be proved of what they are -/

/-- `DEST_ID_MASK`, an OPEN parameter (R95, D13): any mask; safe (log 2). -/
opaque Config.destIdMask : Byte
/-- `TARGET_LUN_MASK`, an OPEN parameter (R95, D13): any mask; safe (log 2). -/
opaque Config.targetLunMask : Byte
/-- `BASE`, an OPEN parameter: the address the platform maps offset 0 to (R7, R61 of 20_memory.md, D25); safe (log 18). -/
opaque Config.base : Nat
/-- How many bytes the platform decodes beyond the two ports: the size of its window is an open parameter (R61, R69 of
20_memory.md); any number, safe (log 18). -/
opaque Config.windowBeyondPorts : Nat
/-- The size in bytes of the window the platform decodes from `BASE`: open (R61, R69); DEDUCED that it holds the "two externally
visible addresses" of R61 (log 18). -/
def Config.windowSize : Nat := 2 + Config.windowBeyondPorts
/-- The bus's answer to its n-th call, a `find_device`, when State lists no answer (R291, U11); safe (log 5). -/
opaque Config.freeDevice : Nat → Option DevHandle
/-- The bus's answer to its n-th call, a `find_lun`, when State lists no answer (R293, U11); safe (log 5). -/
opaque Config.freeLun : Nat → Option LunHandle
/-- The bus's answer to its n-th call, an `enqueue_request`, when State lists no answer (R292, U11); safe (log 5). -/
opaque Config.freeRequest : Nat → ReqHandle × Int
/-- The bus's answer to its n-th call, an `enqueue_read`, when State lists no answer (R295, U11); safe (log 5). -/
opaque Config.freeRead : Nat → ReqHandle × Int × List Byte

end Sys2Proof
end

