-- ==== Sys2Proof/Syntax.lean ====
section
/-! DEFINITION. Syntax: the instructions (one constructor per row of opcode_table.json), the rows of the index and opcode
maps, the lines of a script and the encoded forms. -/

namespace Sys2Proof

/-- How a data-port access reaches a register index: a read, or a write of a byte (R122, R123 of 40_indirect_register_file.md). -/
inductive RegAccess where
  | read
  | write (v : Byte)
deriving DecidableEq, Repr

/-- The instructions: one constructor per row of spec/opcode_table.json (R109 of 30_encoding.md), in its order. -/
inductive Instr where
  /-- `AR`, read of the address-pointer port (R120). -/
  | ar
  /-- `DR`, read of the data port (R122). -/
  | dr
  /-- `AW v`, write of the address-pointer port (R121). -/
  | aw (v : Byte)
  /-- `DW v`, write of the data port (R123). -/
  | dw (v : Byte)
  /-- `IDX_OWN_ID` (R125). -/
  | idxOwnId (a : RegAccess)
  /-- `IDX_CONTROL` (R126). -/
  | idxControl (a : RegAccess)
  /-- `IDX_TIMEOUT_PERIOD` (R127). -/
  | idxTimeoutPeriod (a : RegAccess)
  /-- `IDX_TOTAL_SECTORS` (R128). -/
  | idxTotalSectors (a : RegAccess)
  /-- `IDX_TOTAL_HEADS` (R129). -/
  | idxTotalHeads (a : RegAccess)
  /-- `IDX_TOTAL_CYL_MSB` (R130). -/
  | idxTotalCylMsb (a : RegAccess)
  /-- `IDX_TOTAL_CYL_LSB` (R131). -/
  | idxTotalCylLsb (a : RegAccess)
  /-- `IDX_LOG_ADDR_MSB` (R132). -/
  | idxLogAddrMsb (a : RegAccess)
  /-- `IDX_LOG_ADDR_2ND` (R133). -/
  | idxLogAddr2nd (a : RegAccess)
  /-- `IDX_LOG_ADDR_3RD` (R134). -/
  | idxLogAddr3rd (a : RegAccess)
  /-- `IDX_LOG_ADDR_LSB` (R135). -/
  | idxLogAddrLsb (a : RegAccess)
  /-- `IDX_SECTOR_NUMBER` (R136). -/
  | idxSectorNumber (a : RegAccess)
  /-- `IDX_HEAD_NUMBER` (R137). -/
  | idxHeadNumber (a : RegAccess)
  /-- `IDX_CYL_NUMBER_MSB` (R138). -/
  | idxCylNumberMsb (a : RegAccess)
  /-- `IDX_CYL_NUMBER_LSB` (R139). -/
  | idxCylNumberLsb (a : RegAccess)
  /-- `IDX_TARGET_LUN` (R140). -/
  | idxTargetLun (a : RegAccess)
  /-- `IDX_COMMAND_PHASE` (R141). -/
  | idxCommandPhase (a : RegAccess)
  /-- `IDX_SYNC_TRANSFER` (R142). -/
  | idxSyncTransfer (a : RegAccess)
  /-- `IDX_TC_MSB` (R143). -/
  | idxTcMsb (a : RegAccess)
  /-- `IDX_TC_MID` (R144). -/
  | idxTcMid (a : RegAccess)
  /-- `IDX_TC_LSB` (R145). -/
  | idxTcLsb (a : RegAccess)
  /-- `IDX_DESTINATION_ID` (R146). -/
  | idxDestinationId (a : RegAccess)
  /-- `IDX_SOURCE_ID` (R147). -/
  | idxSourceId (a : RegAccess)
  /-- `IDX_SCSI_STATUS` (R148). -/
  | idxScsiStatus (a : RegAccess)
  /-- `IDX_COMMAND` (R149). -/
  | idxCommand (a : RegAccess)
  /-- `IDX_DATA` (R150). -/
  | idxData (a : RegAccess)
  /-- `IDX_AUX_STATUS` (R151). -/
  | idxAuxStatus (a : RegAccess)
  /-- `IDX_UNKNOWN_1A` (R152). -/
  | idxUnknown1A (a : RegAccess)
  /-- `IDX_UNKNOWN_1B` (R152). -/
  | idxUnknown1B (a : RegAccess)
  /-- `IDX_UNKNOWN_1C` (R152). -/
  | idxUnknown1C (a : RegAccess)
  /-- `IDX_UNKNOWN_1D` (R152). -/
  | idxUnknown1D (a : RegAccess)
  /-- `IDX_UNKNOWN_1E` (R152). -/
  | idxUnknown1E (a : RegAccess)
  /-- `IDX_UNKNOWN_20_3F` (R152). -/
  | idxUnknown20_3F (p : Index) (a : RegAccess)
  /-- `IDX_UNKNOWN_40_7F` (R152). -/
  | idxUnknown40_7F (p : Index) (a : RegAccess)
  /-- `IDX_UNKNOWN` (R152). -/
  | idxUnknown (p : Index) (a : RegAccess)
  /-- `OP_RESET` (R201). -/
  | opReset
  /-- `OP_ABORT` (R233). -/
  | opAbort
  /-- `OP_ASSERT_ATN` (R205). -/
  | opAssertAtn
  /-- `OP_NEGATE_ACK` (R206). -/
  | opNegateAck
  /-- `OP_DISCONNECT` (R207). -/
  | opDisconnect
  /-- `OP_RESELECT` (R208). -/
  | opReselect
  /-- `OP_SEL_ATN` (R224). -/
  | opSelAtn
  /-- `OP_SEL` (R225). -/
  | opSel
  /-- `OP_SEL_ATN_XFER` (R226). -/
  | opSelAtnXfer
  /-- `OP_SEL_XFER` (R227). -/
  | opSelXfer
  /-- `OP_RESEL_RECEIVE` (R209). -/
  | opReselReceive
  /-- `OP_RESEL_SEND` (R210). -/
  | opReselSend
  /-- `OP_WAIT_SEL_RECEIVE` (R211). -/
  | opWaitSelReceive
  /-- `OP_SEND_STATUS_CMD_COMPLETE` (R212). -/
  | opSendStatusCmdComplete
  /-- `OP_SEND_DISCONNECT` (R213). -/
  | opSendDisconnect
  /-- `OP_SET_IDI` (R233). -/
  | opSetIdi
  /-- `OP_RCV_CMD` (R214). -/
  | opRcvCmd
  /-- `OP_RCV_DATA` (R215). -/
  | opRcvData
  /-- `OP_RCV_MSG_OUT` (R216). -/
  | opRcvMsgOut
  /-- `OP_RCV` (R217). -/
  | opRcv
  /-- `OP_SND_STATUS` (R218). -/
  | opSndStatus
  /-- `OP_SND_DATA` (R219). -/
  | opSndData
  /-- `OP_SND_MSG_IN` (R220). -/
  | opSndMsgIn
  /-- `OP_SND` (R221). -/
  | opSnd
  /-- `OP_TRANSLATE_ADDR` (R222). -/
  | opTranslateAddr
  /-- `OP_TRANSFER_INFO` (R228). -/
  | opTransferInfo
  /-- `OP_UNSUPPORTED` (R233). -/
  | opUnsupported (op : Opcode)
  /-- `RESET`, the platform's device reset (R350 of 70_reset_and_hazards.md). -/
  | deviceReset
  /-- `COMPLETE L`, the bus's completion of a request of negotiated length `len` (R262 of 43_state_machine.md). -/
  | busComplete (len : Int)
deriving DecidableEq, Repr

/-- The rows of format `regidx` (R98): what the index decoder answers. The ranges and the catch-all carry the index itself. -/
inductive IndexRow where
  | ownId
  | control
  | timeoutPeriod
  | totalSectors
  | totalHeads
  | totalCylMsb
  | totalCylLsb
  | logAddrMsb
  | logAddr2nd
  | logAddr3rd
  | logAddrLsb
  | sectorNumber
  | headNumber
  | cylNumberMsb
  | cylNumberLsb
  | targetLun
  | commandPhase
  | syncTransfer
  | tcMsb
  | tcMid
  | tcLsb
  | destinationId
  | sourceId
  | scsiStatus
  | command
  | data
  | auxStatus
  | unknown1A
  | unknown1B
  | unknown1C
  | unknown1D
  | unknown1E
  | unknown20_3F (p : Index)
  | unknown40_7F (p : Index)
  | unknown (p : Index)
deriving DecidableEq, Repr

/-- The rows of format `cmd` (R104): what the opcode decoder answers. The catch-all carries the opcode itself. -/
inductive CommandRow where
  | reset
  | abort
  | assertAtn
  | negateAck
  | disconnect
  | reselect
  | selAtn
  | sel
  | selAtnXfer
  | selXfer
  | reselReceive
  | reselSend
  | waitSelReceive
  | sendStatusCmdComplete
  | sendDisconnect
  | setIdi
  | rcvCmd
  | rcvData
  | rcvMsgOut
  | rcv
  | sndStatus
  | sndData
  | sndMsgIn
  | snd
  | translateAddr
  | transferInfo
  | unsupported (op : Opcode)
deriving DecidableEq, Repr

/-- The instruction that a row of the index map stands for, reached by the access `a`. -/
def IndexRow.instr : IndexRow → RegAccess → Instr
  | .ownId, a => .idxOwnId a
  | .control, a => .idxControl a
  | .timeoutPeriod, a => .idxTimeoutPeriod a
  | .totalSectors, a => .idxTotalSectors a
  | .totalHeads, a => .idxTotalHeads a
  | .totalCylMsb, a => .idxTotalCylMsb a
  | .totalCylLsb, a => .idxTotalCylLsb a
  | .logAddrMsb, a => .idxLogAddrMsb a
  | .logAddr2nd, a => .idxLogAddr2nd a
  | .logAddr3rd, a => .idxLogAddr3rd a
  | .logAddrLsb, a => .idxLogAddrLsb a
  | .sectorNumber, a => .idxSectorNumber a
  | .headNumber, a => .idxHeadNumber a
  | .cylNumberMsb, a => .idxCylNumberMsb a
  | .cylNumberLsb, a => .idxCylNumberLsb a
  | .targetLun, a => .idxTargetLun a
  | .commandPhase, a => .idxCommandPhase a
  | .syncTransfer, a => .idxSyncTransfer a
  | .tcMsb, a => .idxTcMsb a
  | .tcMid, a => .idxTcMid a
  | .tcLsb, a => .idxTcLsb a
  | .destinationId, a => .idxDestinationId a
  | .sourceId, a => .idxSourceId a
  | .scsiStatus, a => .idxScsiStatus a
  | .command, a => .idxCommand a
  | .data, a => .idxData a
  | .auxStatus, a => .idxAuxStatus a
  | .unknown1A, a => .idxUnknown1A a
  | .unknown1B, a => .idxUnknown1B a
  | .unknown1C, a => .idxUnknown1C a
  | .unknown1D, a => .idxUnknown1D a
  | .unknown1E, a => .idxUnknown1E a
  | .unknown20_3F p, a => .idxUnknown20_3F p a
  | .unknown40_7F p, a => .idxUnknown40_7F p a
  | .unknown p, a => .idxUnknown p a

/-- The instruction that a row of the opcode map stands for. -/
def CommandRow.instr : CommandRow → Instr
  | .reset => .opReset
  | .abort => .opAbort
  | .assertAtn => .opAssertAtn
  | .negateAck => .opNegateAck
  | .disconnect => .opDisconnect
  | .reselect => .opReselect
  | .selAtn => .opSelAtn
  | .sel => .opSel
  | .selAtnXfer => .opSelAtnXfer
  | .selXfer => .opSelXfer
  | .reselReceive => .opReselReceive
  | .reselSend => .opReselSend
  | .waitSelReceive => .opWaitSelReceive
  | .sendStatusCmdComplete => .opSendStatusCmdComplete
  | .sendDisconnect => .opSendDisconnect
  | .setIdi => .opSetIdi
  | .rcvCmd => .opRcvCmd
  | .rcvData => .opRcvData
  | .rcvMsgOut => .opRcvMsgOut
  | .rcv => .opRcv
  | .sndStatus => .opSndStatus
  | .sndData => .opSndData
  | .sndMsgIn => .opSndMsgIn
  | .snd => .opSnd
  | .translateAddr => .opTranslateAddr
  | .transferInfo => .opTransferInfo
  | .unsupported op => .opUnsupported op

/-- A host access as the platform sees it: `MemRead(off, width)` or `MemWrite(off, width, value)` (R11 of 00_scope.md). The
value of a read is ignored. -/
structure HostAccess where
  write  : Bool
  offset : Nat
  width  : Nat
  value  : Nat
deriving DecidableEq, Repr

/-- One line of a script: one whole step of one agent (R108 of 30_encoding.md, R8 of 00_scope.md). -/
inductive Line where
  /-- The host makes an access. -/
  | host (access : HostAccess)
  /-- The platform delivers device reset. -/
  | reset
  /-- The bus completes an outstanding request of negotiated length `len`. -/
  | complete (len : Int)
deriving DecidableEq, Repr

/-- The encoded form of an instruction: the format of its table row and the bits of that format (R109). The index rows have 7
bits; the direction and byte that go with them are those of the data-port access. The event rows have no bit pattern. -/
inductive Code where
  | access (w : AccessWord)
  | regidx (p : Index) (a : RegAccess)
  | cmd (op : Opcode)
  | reset
  | complete (len : Int)
deriving DecidableEq, Repr

end Sys2Proof
end

