-- ==== Sys2Proof/Machine/State.lean ====
section
/-! DEFINITION. The state of one controller instance (R20 of 10_state.md), the environment bookkeeping and output traces the
spec names beside it (R37), the model's own input fields, and the power-on state (R351). Plain data throughout. -/

namespace Sys2Proof.Machine

/-- The six controller states (R32 of 10_state.md, R240 of 43_state_machine.md). -/
inductive CtrlState where
  | idle
  | polledWaitingDataOut
  | polledWaitingDataIn
  | polledExecuting
  | completeDataIn
  | completeDataOut
deriving DecidableEq, Repr

/-- The direction of the current data transfer (R33): initiator to device, or device to initiator. -/
inductive Phase where
  | dataOut
  | dataIn
deriving DecidableEq, Repr

/-- The events of the log trace (R13 of 00_scope.md, R310 of 60_exceptions.md). The host cannot read them and no rule does. -/
inductive LogEvent where
  | unknownRegRead (i : Index)
  | unknownRegWrite (i : Index) (v : Byte)
  | unsupportedCommand (op : Opcode)
  | unsupportedDmaMode (m : DmaMode)
  | lunNotFound (targetLun : Byte)
  | fifoOverflow (b : Byte)
  | fifoUnderflow
  | readOnlyWrite (i : Index) (v : Byte)
  | strayCompletion (len : Int)
  | transferSuperseded
deriving DecidableEq, Repr

/-- The calls the block makes to the SCSI bus, each with its arguments and its result (R290, R301 of 45_scsi_bus_adapter.md). -/
inductive BusCall where
  | findDevice (target : Byte) (answer : Option DevHandle)
  | findLun (dev : DevHandle) (unit : Byte) (answer : Option LunHandle)
  /-- The unit is the binding as it stands; R38 (f) says it is never none in a run (log 12). -/
  | enqueueRequest (lun : Option LunHandle) (bytes : List Byte) (n : Nat) (req : ReqHandle) (len : Int)
  | enqueueRead (lun : LunHandle) (n : Nat) (req : ReqHandle) (len : Int) (data : List Byte)
  | reset
deriving DecidableEq, Repr

/-- Why the machine stops with a fault. -/
inductive Fault where
  /-- `XferOutOfRange`, the one fault of the spec (R318 of 60_exceptions.md): raised by `XferFetch` and `XferAppend` when
  `pos >= size` (R255, R252 of 43_state_machine.md). Safe. -/
  | xferOutOfRange
deriving DecidableEq, Repr

/-- Why an instruction has no meaning. -/
inductive Refusal where
  /-- Raised by an arm of `exec` whose instruction has no meaning yet (none here). Safe. -/
  | notModelled (mnemonic : String)
  /-- Raised by `step` on a host access of another width or offset: `refuse(BadAccess)` (R66 of 20_memory.md, D23). Safe. -/
  | badAccess
  /-- Raised by `COMPLETE L` when no request of negotiated length `L` is outstanding: the step is not enabled (R300 of
  45_scsi_bus_adapter.md). Safe (log 8). -/
  | notOutstanding (len : Int)
deriving DecidableEq, Repr

/-- The machine. Field by field: INVENTORY.md, '## State'. -/
structure State where
  /-- Current-register pointer (R24). -/
  ptr : Index
  /-- `own_id` (R125). -/
  ownId : Byte
  /-- `control`: DMA mode in bits 7:5 (R25, R126). -/
  control : Byte
  /-- `timeout_period` (R127). -/
  timeoutPeriod : Byte
  /-- `total_sectors` (R128). -/
  totalSectors : Byte
  /-- `total_heads` (R129). -/
  totalHeads : Byte
  /-- `total_cylinders` (R23, R130, R131). -/
  totalCylinders : BitVec Config.cylBits
  /-- `logical_address` (R23, R132 to R135; C1). -/
  logicalAddress : BitVec Config.laBits
  /-- `sector_number` (R136). -/
  sectorNumber : Byte
  /-- `head_number` (R137). -/
  headNumber : Byte
  /-- `cylinder_number` (R23, R138, R139). -/
  cylinderNumber : BitVec Config.cylBits
  /-- `target_lun` (R140). -/
  targetLun : Byte
  /-- `command_phase` (R29, R141). -/
  commandPhase : Byte
  /-- `sync_transfer` (R29, R142). -/
  syncTransfer : Byte
  /-- `transfer_count` (R23, R143 to R145). -/
  transferCount : BitVec Config.tcBits
  /-- `destination_id` (R146). -/
  destinationId : Byte
  /-- `source_id` (R147). -/
  sourceId : Byte
  /-- `scsi_status`: the code of the last completion event (R27, R148). -/
  scsiStatus : Byte
  /-- `command`: the last opcode written (R26, R149). -/
  command : Opcode
  /-- `aux_status`: bit 7 is `INT`; bit 0 as the host reads it is computed (R28, R151). -/
  auxStatus : Byte
  /-- The byte queue, head first (R31). -/
  fifo : List Byte
  /-- The controller state (R32). -/
  state : CtrlState
  /-- The direction (R33). -/
  phase : Phase
  /-- The transfer buffer (R34). -/
  buf : List Byte
  /-- Cursor of the transfer buffer (R34). -/
  pos : Nat
  /-- Total size of the transfer (R34). -/
  size : Nat
  /-- Selected device (R35). -/
  curDev : Option DevHandle
  /-- Addressed logical unit (R35). -/
  curLun : Option LunHandle
  /-- Request in flight (R35). -/
  curReq : Option ReqHandle
  /-- The interrupt line (R36). -/
  irq : Bool
  /-- Environment: negotiated lengths of the requests enqueued and not completed, a multiset held as a rising list (R300; log 8). -/
  outstanding : List Int
  /-- Environment: the request handles the bus has returned so far, newest first; a new one is none of them (R292, R295; log 6). -/
  issued : List ReqHandle
  /-- Output: the log trace, oldest first (R13). -/
  log : List LogEvent
  /-- Output: the trace of bus calls, oldest first (R301; log 10). -/
  busTrace : List BusCall
  /-- Model: the agents' coming steps (R108; log 3). -/
  script : List Line
  /-- Model: the byte the latest step returned to the host, none if it returned none (R12; log 7). -/
  result : Option Byte
  /-- Model: the bus's coming answers to `find_device` (R291; log 5). -/
  devAnswers : List (Option DevHandle)
  /-- Model: the bus's coming answers to `find_lun` (R293; log 5). -/
  lunAnswers : List (Option LunHandle)
  /-- Model: the bus's coming answers to `enqueue_request` (R292; log 5). -/
  reqAnswers : List (ReqHandle × Int)
  /-- Model: the bus's coming answers to `enqueue_read` (R295; log 5). -/
  readAnswers : List (ReqHandle × Int × List Byte)
  /-- Model: how many bus calls were made; selects the free answer when a list above is empty (log 5). -/
  busCalls : Nat
deriving DecidableEq, Repr

/-- Power-on, followed at once by device reset (R351 of 70_reset_and_hazards.md, R39 of 10_state.md). The model's own fields
hold no step, no answer and no call (DESIGN CHOICE, logs 3, 5 and 7). -/
def State.reset : State where
  ptr := 0#7
  ownId := 0#8
  control := 0#8
  timeoutPeriod := 0#8
  totalSectors := 0#8
  totalHeads := 0#8
  totalCylinders := 0#16
  logicalAddress := 0#32
  sectorNumber := 0#8
  headNumber := 0#8
  cylinderNumber := 0#16
  targetLun := 0#8
  commandPhase := 0#8
  syncTransfer := 0#8
  transferCount := 0#24
  destinationId := 0#8
  sourceId := 0#8
  scsiStatus := 0#8
  command := 0#8
  auxStatus := 0#8
  fifo := []
  state := .idle
  phase := .dataOut
  buf := []
  pos := 0
  size := 0
  curDev := none
  curLun := none
  curReq := none
  irq := false
  outstanding := []
  issued := []
  log := []
  busTrace := []
  script := []
  result := none
  devAnswers := []
  lunAnswers := []
  reqAnswers := []
  readAnswers := []
  busCalls := 0

end Sys2Proof.Machine
end

