-- ==== Sys2Proof/Machine/Flags.lean ====
section
/-! DEFINITION. The two flags of auxiliary status: `INT`, stored, and `DBR`, computed (R28 of 10_state.md, R92 of 30_encoding.md,
R183 of 41_byte_queue.md). -/

namespace Sys2Proof.Machine

/-- `INT`, interrupt pending: `aux_status[7]`. -/
def State.intPending (s : State) : Bool := s.auxStatus.getLsbD 7

/-- `aux_status` with `INT` set, the other bits kept. -/
def setInt (aux : Byte) : Byte := aux ||| Config.auxInt

/-- `aux_status` with `INT` cleared, the other bits kept. -/
def clearInt (aux : Byte) : Byte := aux &&& ~~~Config.auxInt

/-- `DBR`, data buffer ready: the queue is not full (R183). -/
def State.dbr (s : State) : Bool := decide (s.fifo.length < Config.fifoCap)

/-- The auxiliary status byte as the host reads it (R120, R151): the stored bits OR'd with `DBR`. -/
def State.auxByte (s : State) : Byte := s.auxStatus ||| (if s.dbr then Config.auxDbr else 0x00#8)

end Sys2Proof.Machine
end

