-- ==== Sys2Proof/WellFormed.lean ====
section
/-! DEFINITION. Well-formed instructions: an operand that repeats part of the encoding must lie in its row of the table. -/

namespace Sys2Proof

/-- The indices of the rows whose mask is all ones: the 27 defined ones and the five unknown ones 0x1a to 0x1e (R98, R109). -/
def exactIndices : List Index :=
  [ Config.idxOwnId, Config.idxControl, Config.idxTimeoutPeriod, Config.idxTotalSectors,
    Config.idxTotalHeads, Config.idxTotalCylMsb, Config.idxTotalCylLsb, Config.idxLogAddrMsb,
    Config.idxLogAddr2nd, Config.idxLogAddr3rd, Config.idxLogAddrLsb, Config.idxSectorNumber,
    Config.idxHeadNumber, Config.idxCylNumberMsb, Config.idxCylNumberLsb, Config.idxTargetLun,
    Config.idxCommandPhase, Config.idxSyncTransfer, Config.idxTcMsb, Config.idxTcMid,
    Config.idxTcLsb, Config.idxDestinationId, Config.idxSourceId, Config.idxScsiStatus,
    Config.idxCommand, Config.idxData, Config.idxAuxStatus, 0x1a#7,
    0x1b#7, 0x1c#7, 0x1d#7, 0x1e#7 ]

/-- The opcodes of the rows whose mask is all ones: the 26 named ones (R104, R109). -/
def exactOpcodes : List Opcode :=
  [ Config.opReset, Config.opAbort, Config.opAssertAtn, Config.opNegateAck,
    Config.opDisconnect, Config.opReselect, Config.opSelAtn, Config.opSel,
    Config.opSelAtnXfer, Config.opSelXfer, Config.opReselReceive, Config.opReselSend,
    Config.opWaitSelReceive, Config.opSendStatusCmdComplete, Config.opSendDisconnect, Config.opSetIdi,
    Config.opRcvCmd, Config.opRcvData, Config.opRcvMsgOut, Config.opRcv,
    Config.opSndStatus, Config.opSndData, Config.opSndMsgIn, Config.opSnd,
    Config.opTranslateAddr, Config.opTransferInfo ]

/-- The constraints the spec puts on the numbers it leaves to the configuration: `NREGS` indices, none above `IDX_LIMIT`, pairwise
different, the lanes of the logical address and of the transfer count at consecutive ascending indices, the most significant
first (R22 of 10_state.md, R98); opcodes pairwise different (R104); three status codes, pairwise different and not 0 (R94). -/
def Config.admissible : Bool :=
  let indices := exactIndices.take Config.nRegs
  indices.length == Config.nRegs && indices.all (fun i => decide (i.toNat ≤ Config.idxLimit)) && decide indices.Nodup &&
  [Config.idxLogAddr2nd, Config.idxLogAddr3rd, Config.idxLogAddrLsb] ==
    [Config.idxLogAddrMsb + 1, Config.idxLogAddrMsb + 2, Config.idxLogAddrMsb + 3] &&
  [Config.idxTcMid, Config.idxTcLsb] == [Config.idxTcMsb + 1, Config.idxTcMsb + 2] &&
  decide exactOpcodes.Nodup &&
  decide [0x00#8, Config.stSelectComplete, Config.stXferDoneDataOut, Config.stXferDoneDataIn].Nodup

/-- The row `IDX_UNKNOWN_20_3F` applies to `p`: mask 0x60, match 0x20. -/
def inRange20_3F (p : Index) : Bool := p &&& 0x60#7 == 0x20#7

/-- The row `IDX_UNKNOWN_40_7F` applies to `p`: mask 0x40, match 0x40. -/
def inRange40_7F (p : Index) : Bool := p &&& 0x40#7 == 0x40#7

/-- An instruction is well formed when the index or opcode it carries belongs to its own row, tried in the order of R109:
exact rows first, the catch-all last. With the default numbering no index is left for the catch-all `IDX_UNKNOWN` (log 15). -/
def Instr.wellFormed : Instr → Bool
  | .ar | .dr | .aw _ | .dw _ => true
  | .idxOwnId _ | .idxControl _ | .idxTimeoutPeriod _ | .idxTotalSectors _ | .idxTotalHeads _
  | .idxTotalCylMsb _ | .idxTotalCylLsb _ | .idxLogAddrMsb _ | .idxLogAddr2nd _ | .idxLogAddr3rd _
  | .idxLogAddrLsb _ | .idxSectorNumber _ | .idxHeadNumber _ | .idxCylNumberMsb _ | .idxCylNumberLsb _
  | .idxTargetLun _ | .idxCommandPhase _ | .idxSyncTransfer _ | .idxTcMsb _ | .idxTcMid _
  | .idxTcLsb _ | .idxDestinationId _ | .idxSourceId _ | .idxScsiStatus _ | .idxCommand _
  | .idxData _ | .idxAuxStatus _ | .idxUnknown1A _ | .idxUnknown1B _ | .idxUnknown1C _
  | .idxUnknown1D _ | .idxUnknown1E _ => true
  | .idxUnknown20_3F p _ => inRange20_3F p && !exactIndices.contains p
  | .idxUnknown40_7F p _ => inRange40_7F p && !exactIndices.contains p
  | .idxUnknown p _ => !exactIndices.contains p && !inRange20_3F p && !inRange40_7F p
  | .opReset | .opAbort | .opAssertAtn | .opNegateAck | .opDisconnect
  | .opReselect | .opSelAtn | .opSel | .opSelAtnXfer | .opSelXfer
  | .opReselReceive | .opReselSend | .opWaitSelReceive | .opSendStatusCmdComplete | .opSendDisconnect
  | .opSetIdi | .opRcvCmd | .opRcvData | .opRcvMsgOut | .opRcv
  | .opSndStatus | .opSndData | .opSndMsgIn | .opSnd | .opTranslateAddr
  | .opTransferInfo => true
  | .opUnsupported op => !exactOpcodes.contains op
  | .deviceReset | .busComplete _ => true

/-- A host access is inside the interface: one byte wide, at offset 0 or 1, a written value of one byte (R62 of 20_memory.md). -/
def HostAccess.admitted (a : HostAccess) : Bool :=
  a.width == 1 && (a.offset == Config.offAddr || a.offset == Config.offData) && (!a.write || decide (a.value < 2 ^ Config.regBits))

end Sys2Proof
end

