-- ==== Sys2Proof/Decode.lean ====
section
/-! DEFINITION. Decoding and encoding: access words (R90), register indices (R98), opcodes (R104), script lines (R108), the host's
two fixed names, and the script pseudo-operations of R108. Everything is total; a host access outside the interface is rejected
by name. -/

namespace Sys2Proof

/-- Why a script line is rejected. -/
inductive DecodeError where
  /-- An access of another width or at another offset: `refuse(BadAccess)` (R66 of 20_memory.md, D23). -/
  | badAccess
deriving DecidableEq, Repr

/-- One row of the index map: it applies to `p` when `p & mask = value` (R109). -/
structure IndexEntry where
  mask  : Index
  value : Index
  row   : Index → IndexRow

/-- The index map (R22, R98): the rows of format `regidx`, those with a mask of all ones first, the catch-all last. -/
def indexMap : List IndexEntry :=
  [ ⟨0x7f#7, Config.idxOwnId, fun _ => .ownId⟩,
    ⟨0x7f#7, Config.idxControl, fun _ => .control⟩,
    ⟨0x7f#7, Config.idxTimeoutPeriod, fun _ => .timeoutPeriod⟩,
    ⟨0x7f#7, Config.idxTotalSectors, fun _ => .totalSectors⟩,
    ⟨0x7f#7, Config.idxTotalHeads, fun _ => .totalHeads⟩,
    ⟨0x7f#7, Config.idxTotalCylMsb, fun _ => .totalCylMsb⟩,
    ⟨0x7f#7, Config.idxTotalCylLsb, fun _ => .totalCylLsb⟩,
    ⟨0x7f#7, Config.idxLogAddrMsb, fun _ => .logAddrMsb⟩,
    ⟨0x7f#7, Config.idxLogAddr2nd, fun _ => .logAddr2nd⟩,
    ⟨0x7f#7, Config.idxLogAddr3rd, fun _ => .logAddr3rd⟩,
    ⟨0x7f#7, Config.idxLogAddrLsb, fun _ => .logAddrLsb⟩,
    ⟨0x7f#7, Config.idxSectorNumber, fun _ => .sectorNumber⟩,
    ⟨0x7f#7, Config.idxHeadNumber, fun _ => .headNumber⟩,
    ⟨0x7f#7, Config.idxCylNumberMsb, fun _ => .cylNumberMsb⟩,
    ⟨0x7f#7, Config.idxCylNumberLsb, fun _ => .cylNumberLsb⟩,
    ⟨0x7f#7, Config.idxTargetLun, fun _ => .targetLun⟩,
    ⟨0x7f#7, Config.idxCommandPhase, fun _ => .commandPhase⟩,
    ⟨0x7f#7, Config.idxSyncTransfer, fun _ => .syncTransfer⟩,
    ⟨0x7f#7, Config.idxTcMsb, fun _ => .tcMsb⟩,
    ⟨0x7f#7, Config.idxTcMid, fun _ => .tcMid⟩,
    ⟨0x7f#7, Config.idxTcLsb, fun _ => .tcLsb⟩,
    ⟨0x7f#7, Config.idxDestinationId, fun _ => .destinationId⟩,
    ⟨0x7f#7, Config.idxSourceId, fun _ => .sourceId⟩,
    ⟨0x7f#7, Config.idxScsiStatus, fun _ => .scsiStatus⟩,
    ⟨0x7f#7, Config.idxCommand, fun _ => .command⟩,
    ⟨0x7f#7, Config.idxData, fun _ => .data⟩,
    ⟨0x7f#7, Config.idxAuxStatus, fun _ => .auxStatus⟩,
    ⟨0x7f#7, 0x1a#7, fun _ => .unknown1A⟩,
    ⟨0x7f#7, 0x1b#7, fun _ => .unknown1B⟩,
    ⟨0x7f#7, 0x1c#7, fun _ => .unknown1C⟩,
    ⟨0x7f#7, 0x1d#7, fun _ => .unknown1D⟩,
    ⟨0x7f#7, 0x1e#7, fun _ => .unknown1E⟩,
    ⟨0x60#7, 0x20#7, .unknown20_3F⟩,
    ⟨0x40#7, 0x40#7, .unknown40_7F⟩,
    ⟨0x00#7, 0x00#7, .unknown⟩ ]

/-- The row that the index `p` selects (R98): exactly one of the 27 defined indices or an unknown row. -/
def decodeIndex (p : Index) : IndexRow :=
  match indexMap.find? (fun e => p &&& e.mask == e.value) with
  | some e => e.row p
  | none => .unknown p

/-- One row of the opcode map: it applies to `op` when `op & mask = value` (R109). -/
structure CommandEntry where
  mask  : Opcode
  value : Opcode
  row   : Opcode → CommandRow

/-- The opcode map (R104, R200): the rows of format `cmd`, the catch-all last. -/
def commandMap : List CommandEntry :=
  [ ⟨0xff#8, Config.opReset, fun _ => .reset⟩,
    ⟨0xff#8, Config.opAbort, fun _ => .abort⟩,
    ⟨0xff#8, Config.opAssertAtn, fun _ => .assertAtn⟩,
    ⟨0xff#8, Config.opNegateAck, fun _ => .negateAck⟩,
    ⟨0xff#8, Config.opDisconnect, fun _ => .disconnect⟩,
    ⟨0xff#8, Config.opReselect, fun _ => .reselect⟩,
    ⟨0xff#8, Config.opSelAtn, fun _ => .selAtn⟩,
    ⟨0xff#8, Config.opSel, fun _ => .sel⟩,
    ⟨0xff#8, Config.opSelAtnXfer, fun _ => .selAtnXfer⟩,
    ⟨0xff#8, Config.opSelXfer, fun _ => .selXfer⟩,
    ⟨0xff#8, Config.opReselReceive, fun _ => .reselReceive⟩,
    ⟨0xff#8, Config.opReselSend, fun _ => .reselSend⟩,
    ⟨0xff#8, Config.opWaitSelReceive, fun _ => .waitSelReceive⟩,
    ⟨0xff#8, Config.opSendStatusCmdComplete, fun _ => .sendStatusCmdComplete⟩,
    ⟨0xff#8, Config.opSendDisconnect, fun _ => .sendDisconnect⟩,
    ⟨0xff#8, Config.opSetIdi, fun _ => .setIdi⟩,
    ⟨0xff#8, Config.opRcvCmd, fun _ => .rcvCmd⟩,
    ⟨0xff#8, Config.opRcvData, fun _ => .rcvData⟩,
    ⟨0xff#8, Config.opRcvMsgOut, fun _ => .rcvMsgOut⟩,
    ⟨0xff#8, Config.opRcv, fun _ => .rcv⟩,
    ⟨0xff#8, Config.opSndStatus, fun _ => .sndStatus⟩,
    ⟨0xff#8, Config.opSndData, fun _ => .sndData⟩,
    ⟨0xff#8, Config.opSndMsgIn, fun _ => .sndMsgIn⟩,
    ⟨0xff#8, Config.opSnd, fun _ => .snd⟩,
    ⟨0xff#8, Config.opTranslateAddr, fun _ => .translateAddr⟩,
    ⟨0xff#8, Config.opTransferInfo, fun _ => .transferInfo⟩,
    ⟨0x00#8, 0x00#8, .unsupported⟩ ]

/-- The row that the opcode `op` selects (R104): the whole byte, no sub-fields. -/
def decodeCommand (op : Opcode) : CommandRow :=
  match commandMap.find? (fun e => op &&& e.mask == e.value) with
  | some e => e.row op
  | none => .unsupported op

/-- The instruction of an access word (R90): bit 9 is `W`, bit 8 is `A`, bits 7:0 the byte written, ignored by reads. -/
def decodeAccess (w : AccessWord) : Instr :=
  match w.getLsbD 9, w.getLsbD 8 with
  | false, false => .ar
  | false, true  => .dr
  | true,  false => .aw (w.extractLsb' 0 Config.regBits)
  | true,  true  => .dw (w.extractLsb' 0 Config.regBits)

/-- The instruction of an encoded form. -/
def decode : Code → Instr
  | .access w => decodeAccess w
  | .regidx p a => (decodeIndex p).instr a
  | .cmd op => (decodeCommand op).instr
  | .reset => .deviceReset
  | .complete len => .busComplete len

/-- The access word with `W = w`, `A = a` and data byte `v` (R90). -/
def accessWord (w a : Bool) (v : Byte) : AccessWord :=
  BitVec.ofBool w ++ BitVec.ofBool a ++ v

/-- The encoded form of an instruction, written from the same rows: R90 for accesses, R22 for indices, R104 for opcodes. -/
def encode : Instr → Code
  | .ar => .access (accessWord false false 0x00#8)
  | .dr => .access (accessWord false true 0x00#8)
  | .aw v => .access (accessWord true false v)
  | .dw v => .access (accessWord true true v)
  | .idxOwnId a => .regidx Config.idxOwnId a
  | .idxControl a => .regidx Config.idxControl a
  | .idxTimeoutPeriod a => .regidx Config.idxTimeoutPeriod a
  | .idxTotalSectors a => .regidx Config.idxTotalSectors a
  | .idxTotalHeads a => .regidx Config.idxTotalHeads a
  | .idxTotalCylMsb a => .regidx Config.idxTotalCylMsb a
  | .idxTotalCylLsb a => .regidx Config.idxTotalCylLsb a
  | .idxLogAddrMsb a => .regidx Config.idxLogAddrMsb a
  | .idxLogAddr2nd a => .regidx Config.idxLogAddr2nd a
  | .idxLogAddr3rd a => .regidx Config.idxLogAddr3rd a
  | .idxLogAddrLsb a => .regidx Config.idxLogAddrLsb a
  | .idxSectorNumber a => .regidx Config.idxSectorNumber a
  | .idxHeadNumber a => .regidx Config.idxHeadNumber a
  | .idxCylNumberMsb a => .regidx Config.idxCylNumberMsb a
  | .idxCylNumberLsb a => .regidx Config.idxCylNumberLsb a
  | .idxTargetLun a => .regidx Config.idxTargetLun a
  | .idxCommandPhase a => .regidx Config.idxCommandPhase a
  | .idxSyncTransfer a => .regidx Config.idxSyncTransfer a
  | .idxTcMsb a => .regidx Config.idxTcMsb a
  | .idxTcMid a => .regidx Config.idxTcMid a
  | .idxTcLsb a => .regidx Config.idxTcLsb a
  | .idxDestinationId a => .regidx Config.idxDestinationId a
  | .idxSourceId a => .regidx Config.idxSourceId a
  | .idxScsiStatus a => .regidx Config.idxScsiStatus a
  | .idxCommand a => .regidx Config.idxCommand a
  | .idxData a => .regidx Config.idxData a
  | .idxAuxStatus a => .regidx Config.idxAuxStatus a
  | .idxUnknown1A a => .regidx 0x1a#7 a
  | .idxUnknown1B a => .regidx 0x1b#7 a
  | .idxUnknown1C a => .regidx 0x1c#7 a
  | .idxUnknown1D a => .regidx 0x1d#7 a
  | .idxUnknown1E a => .regidx 0x1e#7 a
  | .idxUnknown20_3F p a => .regidx p a
  | .idxUnknown40_7F p a => .regidx p a
  | .idxUnknown p a => .regidx p a
  | .opReset => .cmd Config.opReset
  | .opAbort => .cmd Config.opAbort
  | .opAssertAtn => .cmd Config.opAssertAtn
  | .opNegateAck => .cmd Config.opNegateAck
  | .opDisconnect => .cmd Config.opDisconnect
  | .opReselect => .cmd Config.opReselect
  | .opSelAtn => .cmd Config.opSelAtn
  | .opSel => .cmd Config.opSel
  | .opSelAtnXfer => .cmd Config.opSelAtnXfer
  | .opSelXfer => .cmd Config.opSelXfer
  | .opReselReceive => .cmd Config.opReselReceive
  | .opReselSend => .cmd Config.opReselSend
  | .opWaitSelReceive => .cmd Config.opWaitSelReceive
  | .opSendStatusCmdComplete => .cmd Config.opSendStatusCmdComplete
  | .opSendDisconnect => .cmd Config.opSendDisconnect
  | .opSetIdi => .cmd Config.opSetIdi
  | .opRcvCmd => .cmd Config.opRcvCmd
  | .opRcvData => .cmd Config.opRcvData
  | .opRcvMsgOut => .cmd Config.opRcvMsgOut
  | .opRcv => .cmd Config.opRcv
  | .opSndStatus => .cmd Config.opSndStatus
  | .opSndData => .cmd Config.opSndData
  | .opSndMsgIn => .cmd Config.opSndMsgIn
  | .opSnd => .cmd Config.opSnd
  | .opTranslateAddr => .cmd Config.opTranslateAddr
  | .opTransferInfo => .cmd Config.opTransferInfo
  | .opUnsupported op => .cmd op
  | .deviceReset => .reset
  | .busComplete len => .complete len

/-- The access word of a host access inside the interface, none of any other (R62, R66). The `D` bits of a read are written as 0. -/
def HostAccess.word? (a : HostAccess) : Option AccessWord :=
  if a.admitted then
    some (accessWord a.write (a.offset == Config.offData) (if a.write then BitVec.ofNat Config.regBits a.value else 0x00#8))
  else none

/-- The host access that an access word stands for (R90). -/
def HostAccess.ofWord (w : AccessWord) : HostAccess :=
  { write := w.getLsbD 9, offset := if w.getLsbD 8 then Config.offData else Config.offAddr, width := 1,
    value := (w.extractLsb' 0 Config.regBits).toNat }

/-- The address of an access on the platform's bus: its offset from `BASE` (R11, R61 of 20_memory.md). -/
def HostAccess.address (a : HostAccess) : Nat := Config.base + a.offset

/-- The access of `width` bytes at a platform address that the platform routes to the block, none outside the window, whose size
is open (R61, R69). That the access's first byte decides, and that an address outside the window is none of the block's, is a
DESIGN CHOICE (log 18). No rule depends on `BASE` (D25) or on the window: the block sees the offset alone. -/
def HostAccess.ofAddress? (write : Bool) (address width value : Nat) : Option HostAccess :=
  if Config.base ≤ address ∧ address < Config.base + Config.windowSize then some ⟨write, address - Config.base, width, value⟩ else none

/-- The instruction of a script line (R108), or the name under which it is rejected. -/
def decodeLine : Line → Except DecodeError Instr
  | .host a =>
    match a.word? with
    | some w => .ok (decode (.access w))
    | none => .error .badAccess
  | .reset => .ok (decode .reset)
  | .complete len => .ok (decode (.complete len))

/-- The instruction of a table word (log 14): 10 bits, laid out in two bytes, are an access word, whose bits above 9 must be
0; one byte with bit 7 clear is a register index, reached by a read; one byte with bit 7 set is an opcode. -/
def decodeTableWord (nbits w : Nat) : Option Instr :=
  if nbits = 10 ∨ nbits = 16 then
    if w < 1024 then some (decode (.access (BitVec.ofNat 10 w))) else none
  else if nbits = 7 ∨ nbits = 8 then
    if w < Config.ptrMod then some (decode (.regidx (BitVec.ofNat Config.ptrBits w) .read))
    else if nbits = 8 ∧ w < 2 ^ Config.opcodeBits then some (decode (.cmd (BitVec.ofNat Config.opcodeBits w))) else none
  else none

/-! ## Script notation (R108) -/

/-- Script line `AR`. -/
def Line.ar : Line := .host ⟨false, Config.offAddr, 1, 0⟩
/-- Script line `DR`. -/
def Line.dr : Line := .host ⟨false, Config.offData, 1, 0⟩
/-- Script line `AW v`. -/
def Line.aw (v : Byte) : Line := .host ⟨true, Config.offAddr, 1, v.toNat⟩
/-- Script line `DW v`. -/
def Line.dw (v : Byte) : Line := .host ⟨true, Config.offData, 1, v.toNat⟩

/-- Script line `AW IDX_name`, loading the index `i`. -/
def Script.point (i : Index) : Line := .aw (i.setWidth 8)
/-- Pseudo-operation `WREG name, v`. -/
def Script.wreg (i : Index) (v : Byte) : List Line := [Script.point i, .dw v]
/-- Pseudo-operation `RREG name`. -/
def Script.rreg (i : Index) : List Line := [Script.point i, .dr]
/-- Pseudo-operation `CMD name`. -/
def Script.cmd (op : Opcode) : List Line := [Script.point Config.idxCommand, .dw op]
/-- Pseudo-operation `WREG24 TC, v`. -/
def Script.wreg24 (v : BitVec Config.tcBits) : List Line :=
  [Script.point Config.idxTcMsb, .dw (v.extractLsb' 16 8), .dw (v.extractLsb' 8 8), .dw (v.extractLsb' 0 8)]
/-- Pseudo-operation `WREG32 LA, v`. -/
def Script.wreg32 (v : BitVec Config.laBits) : List Line :=
  [Script.point Config.idxLogAddrMsb, .dw (v.extractLsb' 24 8), .dw (v.extractLsb' 16 8), .dw (v.extractLsb' 8 8), .dw (v.extractLsb' 0 8)]
/-- Pseudo-operation `PUT b`. -/
def Script.put (b : Byte) : List Line := [Script.point Config.idxData, .dw b]
/-- Pseudo-operation `GET`. -/
def Script.get : List Line := [Script.point Config.idxData, .dr]

end Sys2Proof
end

