-- ==== Sys2Proof/Machine/Operands.lean ====
section
/-! DEFINITION. Operand forms: byte lanes of the multi-byte fields (R23, R96), the other extractions of R95 and R97, the stored
byte `x[i]` an index names (R10, R22), and the one form of a plain register access (R30). -/

namespace Sys2Proof.Machine

/-- Lane `k` of a field, lane 0 the least significant: `f[8k+7 : 8k]` (R23). -/
def getLane {n : Nat} (f : BitVec n) (k : Nat) : Byte := f.extractLsb' (Config.regBits * k) Config.regBits

/-- `f` with lane `k` replaced by `v`, every other bit kept (R23, D31). -/
def putLane {n : Nat} (f : BitVec n) (k : Nat) (v : Byte) : BitVec n :=
  (f &&& ~~~((BitVec.allOnes Config.regBits).setWidth n <<< (Config.regBits * k))) |||
    (v.setWidth n <<< (Config.regBits * k))

/-- The pointer that the byte `v` loads: `v[6:0]` (R91 of 30_encoding.md). -/
def loadIndex (v : Byte) : Index := v.extractLsb' 0 Config.ptrBits

/-- The DMA mode, `control[7:5]` (R93, R97). -/
def dmaMode (s : State) : DmaMode := s.control.extractLsb Config.ctrlDmaHi Config.ctrlDmaLo

/-- The target id a Select looks up: `destination_id & DEST_ID_MASK` (R95). -/
def targetId (s : State) : Byte := s.destinationId &&& Config.destIdMask

/-- The unit number a Transfer-Info looks up: `target_lun & TARGET_LUN_MASK` (R95). -/
def unitNumber (s : State) : Byte := s.targetLun &&& Config.targetLunMask

/-- `zext(transfer_count)`, a natural number (R97). -/
def transferSize (s : State) : Nat := s.transferCount.toNat

/-- The direction of a completed request of negotiated length `len`: DataIn when positive, else DataOut (R97). -/
def directionOf (len : Int) : Phase := if 0 < len then .dataIn else .dataOut

/-- `x[i]`: the stored byte that index `i` names, read without side effect (R10, R22); none for the `DATA` window and for an
index that names no register. -/
def State.x (s : State) (i : Index) : Option Byte :=
  match decodeIndex i with
  | .ownId => some s.ownId
  | .control => some s.control
  | .timeoutPeriod => some s.timeoutPeriod
  | .totalSectors => some s.totalSectors
  | .totalHeads => some s.totalHeads
  | .totalCylMsb => some (getLane s.totalCylinders 1)
  | .totalCylLsb => some (getLane s.totalCylinders 0)
  | .logAddrMsb => some (getLane s.logicalAddress 3)
  | .logAddr2nd => some (getLane s.logicalAddress 2)
  | .logAddr3rd => some (getLane s.logicalAddress 1)
  | .logAddrLsb => some (getLane s.logicalAddress 0)
  | .sectorNumber => some s.sectorNumber
  | .headNumber => some s.headNumber
  | .cylNumberMsb => some (getLane s.cylinderNumber 1)
  | .cylNumberLsb => some (getLane s.cylinderNumber 0)
  | .targetLun => some s.targetLun
  | .commandPhase => some s.commandPhase
  | .syncTransfer => some s.syncTransfer
  | .tcMsb => some (getLane s.transferCount 2)
  | .tcMid => some (getLane s.transferCount 1)
  | .tcLsb => some (getLane s.transferCount 0)
  | .destinationId => some s.destinationId
  | .sourceId => some s.sourceId
  | .scsiStatus => some s.scsiStatus
  | .command => some s.command
  | .auxStatus => some s.auxStatus
  | .data | .unknown1A | .unknown1B | .unknown1C | .unknown1D | .unknown1E => none
  | .unknown20_3F _ | .unknown40_7F _ | .unknown _ => none

/-- A read returns the byte `b` to the host (R12). -/
def State.answer (b : Byte) (s : State) : State := { s with result := some b }

/-- Access to plain storage (R30): a read returns the stored byte `cur`, a write stores all 8 bits by `store`; nothing else. -/
def accessPlain (a : RegAccess) (cur : Byte) (store : Byte → State) (s : State) : Host.Outcome State Fault Refusal :=
  match a with
  | .read => .next (s.answer cur)
  | .write v => .next (store v)

end Sys2Proof.Machine
end

