-- ==== Sys2Proof/Machine/Ops.lean ====
section
/-! DEFINITION. The shared operations: outputs, the interrupt and its acknowledge, the pointer, the byte queue, the calls to the
SCSI bus, the transfer buffer, device reset, and the fetch of the next script line. -/

namespace Sys2Proof.Machine

/-- Apply `f` to the next state of an outcome; a fault or a refusal stays what it is. -/
def mapNext (f : State → State) (o : Host.Outcome State Fault Refusal) : Host.Outcome State Fault Refusal :=
  match o with
  | .next s => .next (f s)
  | .fault r => .fault r
  | .refused r => .refused r

/-! ## Outputs -/

/-- `log(kind, info)`: append one event to the log trace (R13 of 00_scope.md). -/
def State.logEvent (e : LogEvent) (s : State) : State := { s with log := s.log ++ [e] }

/-- Append one call to the trace of bus calls (R301) and count it. -/
def State.traceCall (c : BusCall) (s : State) : State :=
  { s with busTrace := s.busTrace ++ [c], busCalls := s.busCalls + 1 }

/-! ## The interrupt (R322, R323 of 60_exceptions.md) -/

/-- `irq_raise(code)`, the entry sequence of every interrupt (R322): status code, `INT`, line. -/
def State.irqRaise (code : Byte) (s : State) : State :=
  { s with scsiStatus := code, auxStatus := setInt s.auxStatus, irq := true }

/-- The acknowledge, the side effect of reading the SCSI status register (R148, R323): `INT` and the line go low. -/
def State.irqAck (s : State) : State := { s with auxStatus := clearInt s.auxStatus, irq := false }

/-! ## The pointer -/

/-- The pointer after a data-port access that began with `p0` (R124): it stays at the two status indices, else goes up by one
modulo `PTR_MOD`, the width of an index. -/
def nextPtr (p0 : Index) : Index :=
  if p0 = Config.idxScsiStatus ∨ p0 = Config.idxAuxStatus then p0 else p0 + 1#7

/-- `PtrAdvance(p0)` (R124 of 40_indirect_register_file.md). -/
def State.ptrAdvance (p0 : Index) (s : State) : State := { s with ptr := nextPtr p0 }

/-! ## The byte queue (R181, R182 of 41_byte_queue.md) -/

/-- `FifoPush(b)`: append, or reject and log when full. -/
def State.fifoPush (b : Byte) (s : State) : State :=
  if s.fifo.length < Config.fifoCap then { s with fifo := s.fifo ++ [b] } else s.logEvent (.fifoOverflow b)

/-- `FifoPop()`: return the head, or log and return 0 when empty. -/
def State.fifoPop (s : State) : State :=
  match s.fifo with
  | b :: rest => ({ s with fifo := rest }).answer b
  | [] => (s.logEvent .fifoUnderflow).answer 0x00#8

/-! ## The SCSI bus (45_scsi_bus_adapter.md). Each answer is the environment's: the head of the list in State, or a free value. -/

/-- The bus's answer to the next `find_device` (R291). -/
def State.nextDevice (s : State) : Option DevHandle :=
  match s.devAnswers with
  | a :: _ => a
  | [] => Config.freeDevice s.busCalls

/-- The bus's answer to the next `find_lun` (R293). -/
def State.nextLun (s : State) : Option LunHandle :=
  match s.lunAnswers with
  | a :: _ => a
  | [] => Config.freeLun s.busCalls

/-- The handle `h` when the bus has not returned it before, else one that it has not (R292, R295: "a fresh handle"; log 6). -/
def freshHandle (issued : List ReqHandle) (h : ReqHandle) : ReqHandle :=
  if h ∈ issued then ⟨(issued.map ReqHandle.id).foldr max 0 + 1⟩ else h

/-- The bus's answer to the next `enqueue_request` (R292): a fresh request handle and the negotiated length. -/
def State.nextRequest (s : State) : ReqHandle × Int :=
  let a := match s.reqAnswers with
    | a :: _ => a
    | [] => Config.freeRequest s.busCalls
  (freshHandle s.issued a.1, a.2)

/-- The bus's answer to the next `enqueue_read` (R295): a fresh request handle, negotiated length and bytes handed back. -/
def State.nextRead (s : State) : ReqHandle × Int × List Byte :=
  let a := match s.readAnswers with
    | a :: _ => a
    | [] => Config.freeRead s.busCalls
  (freshHandle s.issued a.1, a.2)

/-- `len` added to a multiset held as a rising list (R300). -/
def addOutstanding (len : Int) : List Int → List Int
  | [] => [len]
  | l :: ls => if len ≤ l then len :: l :: ls else l :: addOutstanding len ls

/-- `Bus.find_device(id)` (R291): the state after the call; its answer is `s.nextDevice`. -/
def State.findDevice (id : Byte) (s : State) : State :=
  ({ s with devAnswers := s.devAnswers.tail }).traceCall (.findDevice id s.nextDevice)

/-- `Bus.find_lun(dev, unit)` (R293): the state after the call; its answer is `s.nextLun`. -/
def State.findLun (dev : DevHandle) (unit : Byte) (s : State) : State :=
  ({ s with lunAnswers := s.lunAnswers.tail }).traceCall (.findLun dev unit s.nextLun)

/-- `Bus.enqueue_request(cur_lun, bytes, n)` (R292, R300): the state after the call; its answer is `s.nextRequest`. -/
def State.enqueueRequest (bytes : List Byte) (n : Nat) (s : State) : State :=
  ({ s with reqAnswers := s.reqAnswers.tail, outstanding := addOutstanding s.nextRequest.2 s.outstanding,
             issued := s.nextRequest.1 :: s.issued }).traceCall
    (.enqueueRequest s.curLun bytes n s.nextRequest.1 s.nextRequest.2)

/-- `Bus.enqueue_read(lun, n)` (R295, R300): the state after the call; its answer is `s.nextRead`. -/
def State.enqueueRead (lun : LunHandle) (n : Nat) (s : State) : State :=
  ({ s with readAnswers := s.readAnswers.tail, outstanding := addOutstanding s.nextRead.2.1 s.outstanding,
             issued := s.nextRead.1 :: s.issued }).traceCall
    (.enqueueRead lun n s.nextRead.1 s.nextRead.2.1 s.nextRead.2.2)

/-- `Bus.reset()` (R297): the outstanding set is left as it is. -/
def State.busReset (s : State) : State := s.traceCall .reset

/-! ## The transfer buffer and the state machine (43_state_machine.md, 44_transfer_buffer.md) -/

/-- A transfer is pending (R272). -/
def CtrlState.pending : CtrlState → Bool
  | .polledWaitingDataOut | .polledWaitingDataIn | .polledExecuting => true
  | .idle | .completeDataIn | .completeDataOut => false

/-- `XferBegin(n)` (R271): a fresh buffer of `n` zero bytes; a pending transfer is superseded, which is logged (R272). -/
def State.xferBegin (n : Nat) (s : State) : State :=
  let t := if s.state.pending then s.logEvent .transferSuperseded else s
  { t with buf := List.replicate n 0x00#8, pos := 0, size := n }

/-- `XferPopulate(D)` (R275): the bytes the bus handed back. -/
def State.xferPopulate (data : List Byte) (s : State) : State :=
  { s with buf := data, size := data.length, pos := 0 }

/-- `XferSubmit()` (R251): the buffer goes out as one request on the current unit. -/
def State.xferSubmit (s : State) : State :=
  { s.enqueueRequest (s.buf.take s.size) s.size with curReq := some s.nextRequest.1, state := .polledExecuting }

/-- `XferAppend(v)`, the intercepted data-port write (R250); out of range it faults (R252). -/
def xferAppend (v : Byte) (s : State) : Host.Outcome State Fault Refusal :=
  if s.pos < s.size then
    let t := { s with buf := s.buf.set s.pos v, pos := s.pos + 1 }
    .next (if t.pos = t.size then t.xferSubmit else t)
  else .fault .xferOutOfRange

/-- `XferFetch()`, the intercepted data-port read (R254); out of range it faults (R255). A buffer shorter than `size`, which
no run reaches (R38 (c)), is out of range too (log 11). -/
def xferFetch (s : State) : Host.Outcome State Fault Refusal :=
  if s.pos < s.size then
    match s.buf[s.pos]? with
    | some b => .next (({ s with pos := s.pos + 1 }).answer b)
    | none => .fault .xferOutOfRange
  else .fault .xferOutOfRange

/-- `DeviceReset` (R350 of 70_reset_and_hazards.md): state, phase and the three bindings; nothing else. -/
def State.deviceReset (s : State) : State :=
  { s with state := .idle, phase := .dataOut, curDev := none, curLun := none, curReq := none }

/-- The block's part of `BusComplete(L)` (R262, R263). -/
def State.completion (len : Int) (s : State) : State :=
  if s.state = .polledExecuting then
    match directionOf len with
    | .dataIn => ({ s with state := .completeDataIn, phase := .dataIn }).irqRaise Config.stXferDoneDataIn
    | .dataOut => ({ s with state := .completeDataOut, phase := .dataOut }).irqRaise Config.stXferDoneDataOut
  else s.logEvent (.strayCompletion len)

/-! ## Commands (42_command_processor.md) -/

/-- `CmdReset()` (R201): cold-reset the bus and drop the two bindings. -/
def State.cmdReset (s : State) : State := { s.busReset with curDev := none, curLun := none }

/-- `CmdSelect()` (R223): drop both bindings, look the target up, bind it and interrupt when it is there. -/
def State.cmdSelect (s : State) : State :=
  let t := ({ s with curDev := none, curLun := none }).findDevice (targetId s)
  match s.nextDevice with
  | some h => ({ t with curDev := some h }).irqRaise Config.stSelectComplete
  | none => t

/-- `StartPolledOut()` (R231). -/
def State.startPolledOut (s : State) : State :=
  { s.xferBegin (transferSize s) with state := .polledWaitingDataOut }

/-- `StartPolledIn()` on the unit `lun` just found (R232). -/
def State.startPolledIn (lun : LunHandle) (s : State) : State :=
  let t := (s.xferBegin (transferSize s)).enqueueRead lun (transferSize s)
  { ({ t with curReq := some s.nextRead.1 }).xferPopulate s.nextRead.2.2 with state := .polledWaitingDataIn }

/-- `CmdTransferInfo()` after the unit lookup (R228 to R232): no unit, a mode that is not polled, or a polled transfer. -/
def State.transferOn (u : Option LunHandle) (s : State) : State :=
  match u with
  | none => s.logEvent (.lunNotFound s.targetLun)
  | some lun =>
    if dmaMode s = Config.dmaModePolled then
      match s.phase with
      | .dataOut => ({ s with curLun := some lun }).startPolledOut
      | .dataIn => ({ s with curLun := some lun }).startPolledIn lun
    else ({ s with curLun := some lun }).logEvent (.unsupportedDmaMode (dmaMode s))

/-- `CmdTransferInfo()` (R228): without a device the bus is not asked. -/
def State.cmdTransferInfo (s : State) : State :=
  match s.curDev with
  | none => s.transferOn none
  | some d => (s.findLun d (unitNumber s)).transferOn s.nextLun

/-- An unknown index (R152): a read returns 0, a write is ignored, both are logged. -/
def unknownIndex (p : Index) (a : RegAccess) (s : State) : State :=
  match a with
  | .read => (s.logEvent (.unknownRegRead p)).answer 0x00#8
  | .write v => s.logEvent (.unknownRegWrite p v)

/-! ## Fetch -/

/-- The state in which a step's instruction runs: the line is taken from the script and no byte is returned yet. -/
def State.takeLine (rest : List Line) (s : State) : State := { s with script := rest, result := none }

/-- The intercept matrix (R258): a data-port write in `PolledWaitingDataOut` and a data-port read in `PolledWaitingDataIn`
go to the transfer buffer, every other access to the register file. -/
def CtrlState.intercepts (c : CtrlState) (a : RegAccess) : Bool :=
  match c, a with
  | .polledWaitingDataOut, .write _ => true
  | .polledWaitingDataIn, .read => true
  | _, _ => false

/-- The controller state in which the access `a` reaches the register file: `Idle` in place of a state that intercepts it. -/
def CtrlState.unintercepted (c : CtrlState) (a : RegAccess) : CtrlState :=
  if c.intercepts a then .idle else c

/-- `s` with the instruction of a table word placed where the next step fetches it (log 14). An access word is the next line of
the script; a register index is the pointer, reached by the next line `DR`; an opcode is the byte of the next line `DW`, the
pointer standing at the command register. A word that `decodeTableWord` refuses is placed as an access too wide to be admitted. -/
def placeWord (s : State) (nbits w : Nat) : State :=
  if (nbits = 10 ∨ nbits = 16) ∧ w < 1024 then
    { s with script := .host (.ofWord (BitVec.ofNat 10 w)) :: s.script }
  else if (nbits = 7 ∨ nbits = 8) ∧ w < Config.ptrMod then
    { s with ptr := BitVec.ofNat Config.ptrBits w, state := s.state.unintercepted .read, script := .dr :: s.script }
  else if nbits = 8 ∧ w < 2 ^ Config.opcodeBits then
    { s with ptr := Config.idxCommand, state := s.state.unintercepted (.write (BitVec.ofNat Config.regBits w)),
             script := .dw (BitVec.ofNat Config.regBits w) :: s.script }
  else
    { s with script := .host ⟨false, Config.offAddr, 2, w⟩ :: s.script }

end Sys2Proof.Machine
end

