-- ==== Sys2Proof/Machine/Events.lean ====
section
/-! DEFINITION. The two events from outside the host: device reset and bus completion. -/

namespace Sys2Proof.Machine

/-- `RESET`: the platform's device reset (R350 of 70_reset_and_hazards.md). -/
def execDeviceReset (s : State) : Host.Outcome State Fault Refusal :=
  .next s.deviceReset

/-- `COMPLETE L`: the bus completes one outstanding request of negotiated length `len` (R262, R263 of 43_state_machine.md). The
step is enabled exactly when `len` is outstanding, and removes one copy (R300); else it is refused (log 8). -/
def execBusComplete (len : Int) (s : State) : Host.Outcome State Fault Refusal :=
  if s.outstanding.contains len then
    .next (({ s with outstanding := s.outstanding.erase len }).completion len)
  else .refused (.notOutstanding len)

end Sys2Proof.Machine
end

