-- ==== Sys2Proof/Machine/PlainRegisters.lean ====
section
/-! DEFINITION. The plain registers (R125 to R147 of 40_indirect_register_file.md): twelve one-byte entries and eleven byte lanes,
each `RegRead(i)` on a read and `RegWrite(i, v)` on a write. They are reached from `DR` and `DW` when no intercept applies; the
pointer advances afterwards, in the enclosing access (R124). -/

namespace Sys2Proof.Machine

/-- `IDX_OWN_ID` (R125). -/
def execIdxOwnId (a : RegAccess) (s : State) : Host.Outcome State Fault Refusal :=
  accessPlain a s.ownId (fun v => { s with ownId := v }) s

/-- `IDX_CONTROL` (R126). -/
def execIdxControl (a : RegAccess) (s : State) : Host.Outcome State Fault Refusal :=
  accessPlain a s.control (fun v => { s with control := v }) s

/-- `IDX_TIMEOUT_PERIOD` (R127). -/
def execIdxTimeoutPeriod (a : RegAccess) (s : State) : Host.Outcome State Fault Refusal :=
  accessPlain a s.timeoutPeriod (fun v => { s with timeoutPeriod := v }) s

/-- `IDX_TOTAL_SECTORS` (R128). -/
def execIdxTotalSectors (a : RegAccess) (s : State) : Host.Outcome State Fault Refusal :=
  accessPlain a s.totalSectors (fun v => { s with totalSectors := v }) s

/-- `IDX_TOTAL_HEADS` (R129). -/
def execIdxTotalHeads (a : RegAccess) (s : State) : Host.Outcome State Fault Refusal :=
  accessPlain a s.totalHeads (fun v => { s with totalHeads := v }) s

/-- `IDX_TOTAL_CYL_MSB`, the lane `totalCylinders[15:8]` (R130). -/
def execIdxTotalCylMsb (a : RegAccess) (s : State) : Host.Outcome State Fault Refusal :=
  accessPlain a (getLane s.totalCylinders 1) (fun v => { s with totalCylinders := putLane s.totalCylinders 1 v }) s

/-- `IDX_TOTAL_CYL_LSB`, the lane `totalCylinders[7:0]` (R131). -/
def execIdxTotalCylLsb (a : RegAccess) (s : State) : Host.Outcome State Fault Refusal :=
  accessPlain a (getLane s.totalCylinders 0) (fun v => { s with totalCylinders := putLane s.totalCylinders 0 v }) s

/-- `IDX_LOG_ADDR_MSB`, the lane `logicalAddress[31:24]` (R132). -/
def execIdxLogAddrMsb (a : RegAccess) (s : State) : Host.Outcome State Fault Refusal :=
  accessPlain a (getLane s.logicalAddress 3) (fun v => { s with logicalAddress := putLane s.logicalAddress 3 v }) s

/-- `IDX_LOG_ADDR_2ND`, the lane `logicalAddress[23:16]` (R133). -/
def execIdxLogAddr2nd (a : RegAccess) (s : State) : Host.Outcome State Fault Refusal :=
  accessPlain a (getLane s.logicalAddress 2) (fun v => { s with logicalAddress := putLane s.logicalAddress 2 v }) s

/-- `IDX_LOG_ADDR_3RD`, the lane `logicalAddress[15:8]` (R134). -/
def execIdxLogAddr3rd (a : RegAccess) (s : State) : Host.Outcome State Fault Refusal :=
  accessPlain a (getLane s.logicalAddress 1) (fun v => { s with logicalAddress := putLane s.logicalAddress 1 v }) s

/-- `IDX_LOG_ADDR_LSB`, the lane `logicalAddress[7:0]` (R135). -/
def execIdxLogAddrLsb (a : RegAccess) (s : State) : Host.Outcome State Fault Refusal :=
  accessPlain a (getLane s.logicalAddress 0) (fun v => { s with logicalAddress := putLane s.logicalAddress 0 v }) s

/-- `IDX_SECTOR_NUMBER` (R136). -/
def execIdxSectorNumber (a : RegAccess) (s : State) : Host.Outcome State Fault Refusal :=
  accessPlain a s.sectorNumber (fun v => { s with sectorNumber := v }) s

/-- `IDX_HEAD_NUMBER` (R137). -/
def execIdxHeadNumber (a : RegAccess) (s : State) : Host.Outcome State Fault Refusal :=
  accessPlain a s.headNumber (fun v => { s with headNumber := v }) s

/-- `IDX_CYL_NUMBER_MSB`, the lane `cylinderNumber[15:8]` (R138). -/
def execIdxCylNumberMsb (a : RegAccess) (s : State) : Host.Outcome State Fault Refusal :=
  accessPlain a (getLane s.cylinderNumber 1) (fun v => { s with cylinderNumber := putLane s.cylinderNumber 1 v }) s

/-- `IDX_CYL_NUMBER_LSB`, the lane `cylinderNumber[7:0]` (R139). -/
def execIdxCylNumberLsb (a : RegAccess) (s : State) : Host.Outcome State Fault Refusal :=
  accessPlain a (getLane s.cylinderNumber 0) (fun v => { s with cylinderNumber := putLane s.cylinderNumber 0 v }) s

/-- `IDX_TARGET_LUN` (R140). -/
def execIdxTargetLun (a : RegAccess) (s : State) : Host.Outcome State Fault Refusal :=
  accessPlain a s.targetLun (fun v => { s with targetLun := v }) s

/-- `IDX_COMMAND_PHASE` (R141). -/
def execIdxCommandPhase (a : RegAccess) (s : State) : Host.Outcome State Fault Refusal :=
  accessPlain a s.commandPhase (fun v => { s with commandPhase := v }) s

/-- `IDX_SYNC_TRANSFER` (R142). -/
def execIdxSyncTransfer (a : RegAccess) (s : State) : Host.Outcome State Fault Refusal :=
  accessPlain a s.syncTransfer (fun v => { s with syncTransfer := v }) s

/-- `IDX_TC_MSB`, the lane `transferCount[23:16]` (R143). -/
def execIdxTcMsb (a : RegAccess) (s : State) : Host.Outcome State Fault Refusal :=
  accessPlain a (getLane s.transferCount 2) (fun v => { s with transferCount := putLane s.transferCount 2 v }) s

/-- `IDX_TC_MID`, the lane `transferCount[15:8]` (R144). -/
def execIdxTcMid (a : RegAccess) (s : State) : Host.Outcome State Fault Refusal :=
  accessPlain a (getLane s.transferCount 1) (fun v => { s with transferCount := putLane s.transferCount 1 v }) s

/-- `IDX_TC_LSB`, the lane `transferCount[7:0]` (R145). -/
def execIdxTcLsb (a : RegAccess) (s : State) : Host.Outcome State Fault Refusal :=
  accessPlain a (getLane s.transferCount 0) (fun v => { s with transferCount := putLane s.transferCount 0 v }) s

/-- `IDX_DESTINATION_ID` (R146). -/
def execIdxDestinationId (a : RegAccess) (s : State) : Host.Outcome State Fault Refusal :=
  accessPlain a s.destinationId (fun v => { s with destinationId := v }) s

/-- `IDX_SOURCE_ID` (R147). -/
def execIdxSourceId (a : RegAccess) (s : State) : Host.Outcome State Fault Refusal :=
  accessPlain a s.sourceId (fun v => { s with sourceId := v }) s

end Sys2Proof.Machine
end

