-- ==== Sys2Proof/Machine/Commands.lean ====
section
/-! DEFINITION. The command processor's opcodes (R201 to R233 of 42_command_processor.md): the action of each command. The store of
the opcode in `command` and the pointer's advance are made by the enclosing write (R149, R124). -/

namespace Sys2Proof.Machine

/-- `OP_RESET`: cold-resets the SCSI bus (R201). -/
def execOpReset (s : State) : Host.Outcome State Fault Refusal :=
  .next s.cmdReset

/-- `OP_ABORT`: unsupported, logged and ignored (R233). -/
def execOpAbort (s : State) : Host.Outcome State Fault Refusal :=
  .next (s.logEvent (.unsupportedCommand Config.opAbort))

/-- `OP_ASSERT_ATN`: accepted, no effect (R205). -/
def execOpAssertAtn (s : State) : Host.Outcome State Fault Refusal :=
  .next s

/-- `OP_NEGATE_ACK`: accepted, no effect (R206). -/
def execOpNegateAck (s : State) : Host.Outcome State Fault Refusal :=
  .next s

/-- `OP_DISCONNECT`: accepted, no effect (R207). -/
def execOpDisconnect (s : State) : Host.Outcome State Fault Refusal :=
  .next s

/-- `OP_RESELECT`: accepted, no effect (R208). -/
def execOpReselect (s : State) : Host.Outcome State Fault Refusal :=
  .next s

/-- `OP_SEL_ATN`: runs `CmdSelect()` (R223) and nothing else (R224). -/
def execOpSelAtn (s : State) : Host.Outcome State Fault Refusal :=
  .next s.cmdSelect

/-- `OP_SEL`: runs `CmdSelect()` (R223) and nothing else (R225). -/
def execOpSel (s : State) : Host.Outcome State Fault Refusal :=
  .next s.cmdSelect

/-- `OP_SEL_ATN_XFER`: runs `CmdSelect()` (R223) and nothing else (R226). -/
def execOpSelAtnXfer (s : State) : Host.Outcome State Fault Refusal :=
  .next s.cmdSelect

/-- `OP_SEL_XFER`: runs `CmdSelect()` (R223) and nothing else (R227). -/
def execOpSelXfer (s : State) : Host.Outcome State Fault Refusal :=
  .next s.cmdSelect

/-- `OP_RESEL_RECEIVE`: accepted, no effect (R209). -/
def execOpReselReceive (s : State) : Host.Outcome State Fault Refusal :=
  .next s

/-- `OP_RESEL_SEND`: accepted, no effect (R210). -/
def execOpReselSend (s : State) : Host.Outcome State Fault Refusal :=
  .next s

/-- `OP_WAIT_SEL_RECEIVE`: accepted, no effect (R211). -/
def execOpWaitSelReceive (s : State) : Host.Outcome State Fault Refusal :=
  .next s

/-- `OP_SEND_STATUS_CMD_COMPLETE`: accepted, no effect (R212). -/
def execOpSendStatusCmdComplete (s : State) : Host.Outcome State Fault Refusal :=
  .next s

/-- `OP_SEND_DISCONNECT`: accepted, no effect (R213). -/
def execOpSendDisconnect (s : State) : Host.Outcome State Fault Refusal :=
  .next s

/-- `OP_SET_IDI`: unsupported, logged and ignored (R233). -/
def execOpSetIdi (s : State) : Host.Outcome State Fault Refusal :=
  .next (s.logEvent (.unsupportedCommand Config.opSetIdi))

/-- `OP_RCV_CMD`: accepted, no effect (R214). -/
def execOpRcvCmd (s : State) : Host.Outcome State Fault Refusal :=
  .next s

/-- `OP_RCV_DATA`: accepted, no effect (R215). -/
def execOpRcvData (s : State) : Host.Outcome State Fault Refusal :=
  .next s

/-- `OP_RCV_MSG_OUT`: accepted, no effect (R216). -/
def execOpRcvMsgOut (s : State) : Host.Outcome State Fault Refusal :=
  .next s

/-- `OP_RCV`: accepted, no effect (R217). -/
def execOpRcv (s : State) : Host.Outcome State Fault Refusal :=
  .next s

/-- `OP_SND_STATUS`: accepted, no effect (R218). -/
def execOpSndStatus (s : State) : Host.Outcome State Fault Refusal :=
  .next s

/-- `OP_SND_DATA`: accepted, no effect (R219). -/
def execOpSndData (s : State) : Host.Outcome State Fault Refusal :=
  .next s

/-- `OP_SND_MSG_IN`: accepted, no effect (R220). -/
def execOpSndMsgIn (s : State) : Host.Outcome State Fault Refusal :=
  .next s

/-- `OP_SND`: accepted, no effect (R221). -/
def execOpSnd (s : State) : Host.Outcome State Fault Refusal :=
  .next s

/-- `OP_TRANSLATE_ADDR`: accepted, no effect (R222). -/
def execOpTranslateAddr (s : State) : Host.Outcome State Fault Refusal :=
  .next s

/-- `OP_TRANSFER_INFO`: starts a polled transfer (R229 to R232) (R228). -/
def execOpTransferInfo (s : State) : Host.Outcome State Fault Refusal :=
  .next s.cmdTransferInfo

/-- `OP_UNSUPPORTED`: every opcode in no class: logged and ignored (R233). -/
def execOpUnsupported (op : Opcode) (s : State) : Host.Outcome State Fault Refusal :=
  .next (s.logEvent (.unsupportedCommand op))

/-- `RunCommand(op)` (R200): the action of the opcode's row. -/
def runCommand (op : Opcode) (s : State) : Host.Outcome State Fault Refusal :=
  match decodeCommand op with
  | .reset => execOpReset s
  | .abort => execOpAbort s
  | .assertAtn => execOpAssertAtn s
  | .negateAck => execOpNegateAck s
  | .disconnect => execOpDisconnect s
  | .reselect => execOpReselect s
  | .selAtn => execOpSelAtn s
  | .sel => execOpSel s
  | .selAtnXfer => execOpSelAtnXfer s
  | .selXfer => execOpSelXfer s
  | .reselReceive => execOpReselReceive s
  | .reselSend => execOpReselSend s
  | .waitSelReceive => execOpWaitSelReceive s
  | .sendStatusCmdComplete => execOpSendStatusCmdComplete s
  | .sendDisconnect => execOpSendDisconnect s
  | .setIdi => execOpSetIdi s
  | .rcvCmd => execOpRcvCmd s
  | .rcvData => execOpRcvData s
  | .rcvMsgOut => execOpRcvMsgOut s
  | .rcv => execOpRcv s
  | .sndStatus => execOpSndStatus s
  | .sndData => execOpSndData s
  | .sndMsgIn => execOpSndMsgIn s
  | .snd => execOpSnd s
  | .translateAddr => execOpTranslateAddr s
  | .transferInfo => execOpTransferInfo s
  | .unsupported op => execOpUnsupported op s

end Sys2Proof.Machine
end

