-- ==== Sys2Proof/Machine/SpecialRegisters.lean ====
section
/-! DEFINITION. The register indices with side effects (R148 to R151 of 40_indirect_register_file.md) and the indices that name no
register (R152). -/

namespace Sys2Proof.Machine

/-- `IDX_SCSI_STATUS` (R148): a read returns the code and acknowledges the interrupt; a write is ignored and logged. -/
def execIdxScsiStatus (a : RegAccess) (s : State) : Host.Outcome State Fault Refusal :=
  match a with
  | .read => .next (s.irqAck.answer s.scsiStatus)
  | .write v => .next (s.logEvent (.readOnlyWrite Config.idxScsiStatus v))

/-- `IDX_COMMAND` (R149): a read returns the last opcode written; a write stores the opcode and runs it. -/
def execIdxCommand (a : RegAccess) (s : State) : Host.Outcome State Fault Refusal :=
  match a with
  | .read => .next (s.answer s.command)
  | .write v => runCommand v { s with command := v }

/-- `IDX_DATA`, the window onto the byte queue (R150). -/
def execIdxData (a : RegAccess) (s : State) : Host.Outcome State Fault Refusal :=
  match a with
  | .read => .next s.fifoPop
  | .write v => .next (s.fifoPush v)

/-- `IDX_AUX_STATUS` (R151): a read returns what `AR` returns; a write is ignored and logged. -/
def execIdxAuxStatus (a : RegAccess) (s : State) : Host.Outcome State Fault Refusal :=
  match a with
  | .read => .next (s.answer s.auxByte)
  | .write v => .next (s.logEvent (.readOnlyWrite Config.idxAuxStatus v))

/-- `IDX_UNKNOWN_1A` (R152). -/
def execIdxUnknown1A (a : RegAccess) (s : State) : Host.Outcome State Fault Refusal :=
  .next (unknownIndex 0x1a#7 a s)

/-- `IDX_UNKNOWN_1B` (R152). -/
def execIdxUnknown1B (a : RegAccess) (s : State) : Host.Outcome State Fault Refusal :=
  .next (unknownIndex 0x1b#7 a s)

/-- `IDX_UNKNOWN_1C` (R152). -/
def execIdxUnknown1C (a : RegAccess) (s : State) : Host.Outcome State Fault Refusal :=
  .next (unknownIndex 0x1c#7 a s)

/-- `IDX_UNKNOWN_1D` (R152). -/
def execIdxUnknown1D (a : RegAccess) (s : State) : Host.Outcome State Fault Refusal :=
  .next (unknownIndex 0x1d#7 a s)

/-- `IDX_UNKNOWN_1E` (R152). -/
def execIdxUnknown1E (a : RegAccess) (s : State) : Host.Outcome State Fault Refusal :=
  .next (unknownIndex 0x1e#7 a s)

/-- `IDX_UNKNOWN_20_3F` (R152). -/
def execIdxUnknown20_3F (p : Index) (a : RegAccess) (s : State) : Host.Outcome State Fault Refusal :=
  .next (unknownIndex p a s)

/-- `IDX_UNKNOWN_40_7F` (R152). -/
def execIdxUnknown40_7F (p : Index) (a : RegAccess) (s : State) : Host.Outcome State Fault Refusal :=
  .next (unknownIndex p a s)

/-- `IDX_UNKNOWN` (R152). -/
def execIdxUnknown (p : Index) (a : RegAccess) (s : State) : Host.Outcome State Fault Refusal :=
  .next (unknownIndex p a s)

end Sys2Proof.Machine
end

