-- ==== Sys2Proof/Machine/Ports.lean ====
section
/-! DEFINITION. The four port operations (R120 to R123 of 40_indirect_register_file.md). -/

namespace Sys2Proof.Machine

/-- `RegRead(i)` or `RegWrite(i, v)`: the action of the row that the index selects (R98, R125 to R152). -/
def registerAction (p : Index) (a : RegAccess) (s : State) : Host.Outcome State Fault Refusal :=
  match decodeIndex p with
  | .ownId => execIdxOwnId a s
  | .control => execIdxControl a s
  | .timeoutPeriod => execIdxTimeoutPeriod a s
  | .totalSectors => execIdxTotalSectors a s
  | .totalHeads => execIdxTotalHeads a s
  | .totalCylMsb => execIdxTotalCylMsb a s
  | .totalCylLsb => execIdxTotalCylLsb a s
  | .logAddrMsb => execIdxLogAddrMsb a s
  | .logAddr2nd => execIdxLogAddr2nd a s
  | .logAddr3rd => execIdxLogAddr3rd a s
  | .logAddrLsb => execIdxLogAddrLsb a s
  | .sectorNumber => execIdxSectorNumber a s
  | .headNumber => execIdxHeadNumber a s
  | .cylNumberMsb => execIdxCylNumberMsb a s
  | .cylNumberLsb => execIdxCylNumberLsb a s
  | .targetLun => execIdxTargetLun a s
  | .commandPhase => execIdxCommandPhase a s
  | .syncTransfer => execIdxSyncTransfer a s
  | .tcMsb => execIdxTcMsb a s
  | .tcMid => execIdxTcMid a s
  | .tcLsb => execIdxTcLsb a s
  | .destinationId => execIdxDestinationId a s
  | .sourceId => execIdxSourceId a s
  | .scsiStatus => execIdxScsiStatus a s
  | .command => execIdxCommand a s
  | .data => execIdxData a s
  | .auxStatus => execIdxAuxStatus a s
  | .unknown1A => execIdxUnknown1A a s
  | .unknown1B => execIdxUnknown1B a s
  | .unknown1C => execIdxUnknown1C a s
  | .unknown1D => execIdxUnknown1D a s
  | .unknown1E => execIdxUnknown1E a s
  | .unknown20_3F p => execIdxUnknown20_3F p a s
  | .unknown40_7F p => execIdxUnknown40_7F p a s
  | .unknown p => execIdxUnknown p a s

/-- `AR`: return the auxiliary status byte; nothing else changes (R120). -/
def execAr (s : State) : Host.Outcome State Fault Refusal :=
  .next (s.answer s.auxByte)

/-- `AW v`: load the pointer (R121). -/
def execAw (v : Byte) (s : State) : Host.Outcome State Fault Refusal :=
  .next { s with ptr := loadIndex v }

/-- `DR`: a byte of the transfer buffer in `PolledWaitingDataIn`, else the register the pointer names; then the pointer
advances (R122, R258). -/
def execDr (s : State) : Host.Outcome State Fault Refusal :=
  mapNext (State.ptrAdvance s.ptr)
    (if s.state.intercepts .read then xferFetch s else registerAction s.ptr .read s)

/-- `DW v`: a byte for the transfer buffer in `PolledWaitingDataOut`, else the register the pointer names; then the pointer
advances (R123, R258). -/
def execDw (v : Byte) (s : State) : Host.Outcome State Fault Refusal :=
  mapNext (State.ptrAdvance s.ptr)
    (if s.state.intercepts (.write v) then xferAppend v s else registerAction s.ptr (.write v) s)

end Sys2Proof.Machine
end

