-- ==== Sys2Proof/Machine/Dispatch.lean ====
section
/-! DEFINITION. Dispatch: one arm per instruction, each one call of its meaning. -/

namespace Sys2Proof.Machine

def exec (i : Instr) (s : State) : Host.Outcome State Fault Refusal :=
  match i with
  | .ar => Sys2Proof.Machine.execAr s
  | .dr => Sys2Proof.Machine.execDr s
  | .aw v => Sys2Proof.Machine.execAw v s
  | .dw v => Sys2Proof.Machine.execDw v s
  | .idxOwnId a => Sys2Proof.Machine.execIdxOwnId a s
  | .idxControl a => Sys2Proof.Machine.execIdxControl a s
  | .idxTimeoutPeriod a => Sys2Proof.Machine.execIdxTimeoutPeriod a s
  | .idxTotalSectors a => Sys2Proof.Machine.execIdxTotalSectors a s
  | .idxTotalHeads a => Sys2Proof.Machine.execIdxTotalHeads a s
  | .idxTotalCylMsb a => Sys2Proof.Machine.execIdxTotalCylMsb a s
  | .idxTotalCylLsb a => Sys2Proof.Machine.execIdxTotalCylLsb a s
  | .idxLogAddrMsb a => Sys2Proof.Machine.execIdxLogAddrMsb a s
  | .idxLogAddr2nd a => Sys2Proof.Machine.execIdxLogAddr2nd a s
  | .idxLogAddr3rd a => Sys2Proof.Machine.execIdxLogAddr3rd a s
  | .idxLogAddrLsb a => Sys2Proof.Machine.execIdxLogAddrLsb a s
  | .idxSectorNumber a => Sys2Proof.Machine.execIdxSectorNumber a s
  | .idxHeadNumber a => Sys2Proof.Machine.execIdxHeadNumber a s
  | .idxCylNumberMsb a => Sys2Proof.Machine.execIdxCylNumberMsb a s
  | .idxCylNumberLsb a => Sys2Proof.Machine.execIdxCylNumberLsb a s
  | .idxTargetLun a => Sys2Proof.Machine.execIdxTargetLun a s
  | .idxCommandPhase a => Sys2Proof.Machine.execIdxCommandPhase a s
  | .idxSyncTransfer a => Sys2Proof.Machine.execIdxSyncTransfer a s
  | .idxTcMsb a => Sys2Proof.Machine.execIdxTcMsb a s
  | .idxTcMid a => Sys2Proof.Machine.execIdxTcMid a s
  | .idxTcLsb a => Sys2Proof.Machine.execIdxTcLsb a s
  | .idxDestinationId a => Sys2Proof.Machine.execIdxDestinationId a s
  | .idxSourceId a => Sys2Proof.Machine.execIdxSourceId a s
  | .idxScsiStatus a => Sys2Proof.Machine.execIdxScsiStatus a s
  | .idxCommand a => Sys2Proof.Machine.execIdxCommand a s
  | .idxData a => Sys2Proof.Machine.execIdxData a s
  | .idxAuxStatus a => Sys2Proof.Machine.execIdxAuxStatus a s
  | .idxUnknown1A a => Sys2Proof.Machine.execIdxUnknown1A a s
  | .idxUnknown1B a => Sys2Proof.Machine.execIdxUnknown1B a s
  | .idxUnknown1C a => Sys2Proof.Machine.execIdxUnknown1C a s
  | .idxUnknown1D a => Sys2Proof.Machine.execIdxUnknown1D a s
  | .idxUnknown1E a => Sys2Proof.Machine.execIdxUnknown1E a s
  | .idxUnknown20_3F p a => Sys2Proof.Machine.execIdxUnknown20_3F p a s
  | .idxUnknown40_7F p a => Sys2Proof.Machine.execIdxUnknown40_7F p a s
  | .idxUnknown p a => Sys2Proof.Machine.execIdxUnknown p a s
  | .opReset => Sys2Proof.Machine.execOpReset s
  | .opAbort => Sys2Proof.Machine.execOpAbort s
  | .opAssertAtn => Sys2Proof.Machine.execOpAssertAtn s
  | .opNegateAck => Sys2Proof.Machine.execOpNegateAck s
  | .opDisconnect => Sys2Proof.Machine.execOpDisconnect s
  | .opReselect => Sys2Proof.Machine.execOpReselect s
  | .opSelAtn => Sys2Proof.Machine.execOpSelAtn s
  | .opSel => Sys2Proof.Machine.execOpSel s
  | .opSelAtnXfer => Sys2Proof.Machine.execOpSelAtnXfer s
  | .opSelXfer => Sys2Proof.Machine.execOpSelXfer s
  | .opReselReceive => Sys2Proof.Machine.execOpReselReceive s
  | .opReselSend => Sys2Proof.Machine.execOpReselSend s
  | .opWaitSelReceive => Sys2Proof.Machine.execOpWaitSelReceive s
  | .opSendStatusCmdComplete => Sys2Proof.Machine.execOpSendStatusCmdComplete s
  | .opSendDisconnect => Sys2Proof.Machine.execOpSendDisconnect s
  | .opSetIdi => Sys2Proof.Machine.execOpSetIdi s
  | .opRcvCmd => Sys2Proof.Machine.execOpRcvCmd s
  | .opRcvData => Sys2Proof.Machine.execOpRcvData s
  | .opRcvMsgOut => Sys2Proof.Machine.execOpRcvMsgOut s
  | .opRcv => Sys2Proof.Machine.execOpRcv s
  | .opSndStatus => Sys2Proof.Machine.execOpSndStatus s
  | .opSndData => Sys2Proof.Machine.execOpSndData s
  | .opSndMsgIn => Sys2Proof.Machine.execOpSndMsgIn s
  | .opSnd => Sys2Proof.Machine.execOpSnd s
  | .opTranslateAddr => Sys2Proof.Machine.execOpTranslateAddr s
  | .opTransferInfo => Sys2Proof.Machine.execOpTransferInfo s
  | .opUnsupported op => Sys2Proof.Machine.execOpUnsupported op s
  | .deviceReset => Sys2Proof.Machine.execDeviceReset s
  | .busComplete len => Sys2Proof.Machine.execBusComplete len s

end Sys2Proof.Machine
end

