-- ==== Sys2Proof/Machine/Step.lean ====
section
/-! DEFINITION. One step of the machine: the next line of the script is decoded and run (R8, R71, R108). -/

namespace Sys2Proof.Machine

/-- One whole step of one agent. With no line left no agent acts and nothing changes (log 3); a host access outside the interface
is refused (R66); any other line's instruction runs. -/
def step (s : State) : Host.Outcome State Fault Refusal :=
  match s.script with
  | [] => .next s
  | line :: rest =>
    match decodeLine line with
    | .error .badAccess => .refused .badAccess
    | .ok i => exec i (s.takeLine rest)

/-- The host's name for `placeWord`: a table word placed where the next step fetches it. -/
def State.withFetchWord (s : State) (nbits w : Nat) : State := placeWord s nbits w

end Sys2Proof.Machine
end

