-- ==== Sys2Proof/Safety.lean ====
section
/-! DEFINITION. The terms the statements use: the invariants of every reachable state (R38 of 10_state.md), the groups of
instructions of one shape, and the parts of the state a rule leaves alone. -/

namespace Sys2Proof.Machine

/-- The invariants of R38 of 10_state.md. Its part (a), `0 <= ptr <= 127`, holds by the type of `ptr`. -/
structure State.Inv (s : State) : Prop where
  /-- (b) -/
  queue_fits : s.fifo.length ≤ Config.fifoCap
  /-- (c) -/
  cursor_in_range : s.pos ≤ s.size
  /-- (c) -/
  buffer_full_length : s.buf.length = s.size
  /-- (d) -/
  line_is_int : s.irq = s.auxStatus.getLsbD 7
  /-- (e) -/
  low_bits_clear : s.auxStatus &&& 0x7f#8 = 0x00#8
  /-- (f) -/
  filling_is_bound : s.state = .polledWaitingDataOut →
    s.curLun ≠ none ∧ s.curDev ≠ none ∧ (s.pos < s.size ∨ s.size = 0)
  /-- (g) -/
  out_state_phase : s.state = .polledWaitingDataOut ∨ s.state = .completeDataOut → s.phase = .dataOut
  /-- (g) -/
  in_state_phase : s.state = .polledWaitingDataIn ∨ s.state = .completeDataIn → s.phase = .dataIn
  /-- (h) -/
  status_code : s.scsiStatus = 0x00#8 ∨ s.scsiStatus = Config.stSelectComplete ∨
    s.scsiStatus = Config.stXferDoneDataOut ∨ s.scsiStatus = Config.stXferDoneDataIn

/-- What the environment's bookkeeping keeps (R300 of 45_scsi_bus_adapter.md) and what R266 of 43_state_machine.md rests on:
the multiset is in its one form, the request handles returned so far are pairwise different (R292, R295) and hold the one in
flight, and while the block waits for a completion one is outstanding and the phase is DataOut. -/
structure State.AwaitInv (s : State) : Prop where
  rising : s.outstanding.Pairwise (· ≤ ·)
  handles_differ : s.issued.Nodup
  request_issued : ∀ h : ReqHandle, s.curReq = some h → h ∈ s.issued
  completion_due : s.state = .polledExecuting → s.outstanding ≠ []
  filling_phase : s.state = .polledWaitingDataOut → s.phase = .dataOut
  executing_phase : s.state = .polledExecuting → s.phase = .dataOut

/-- The twelve one-byte plain registers (R30), each with its index. -/
def byteRegisters : List ((RegAccess → Instr) × Index) :=
  [ (.idxOwnId, Config.idxOwnId), (.idxControl, Config.idxControl), (.idxTimeoutPeriod, Config.idxTimeoutPeriod),
    (.idxTotalSectors, Config.idxTotalSectors), (.idxTotalHeads, Config.idxTotalHeads),
    (.idxSectorNumber, Config.idxSectorNumber), (.idxHeadNumber, Config.idxHeadNumber),
    (.idxTargetLun, Config.idxTargetLun), (.idxCommandPhase, Config.idxCommandPhase),
    (.idxSyncTransfer, Config.idxSyncTransfer), (.idxDestinationId, Config.idxDestinationId),
    (.idxSourceId, Config.idxSourceId) ]

/-- The eleven byte lanes of the four multi-byte fields (R23, R30), each with its index. -/
def laneRegisters : List ((RegAccess → Instr) × Index) :=
  [ (.idxTotalCylMsb, Config.idxTotalCylMsb), (.idxTotalCylLsb, Config.idxTotalCylLsb),
    (.idxLogAddrMsb, Config.idxLogAddrMsb), (.idxLogAddr2nd, Config.idxLogAddr2nd),
    (.idxLogAddr3rd, Config.idxLogAddr3rd), (.idxLogAddrLsb, Config.idxLogAddrLsb),
    (.idxCylNumberMsb, Config.idxCylNumberMsb), (.idxCylNumberLsb, Config.idxCylNumberLsb),
    (.idxTcMsb, Config.idxTcMsb), (.idxTcMid, Config.idxTcMid), (.idxTcLsb, Config.idxTcLsb) ]

/-- The 27 defined indices (R22, R98): the plain registers and the four with side effects. -/
def definedIndices : List Index :=
  (byteRegisters ++ laneRegisters).map Prod.snd ++
    [Config.idxScsiStatus, Config.idxCommand, Config.idxData, Config.idxAuxStatus]

/-- The default index map of R22, log 1: the premise of a statement that depends on the numbers of the registers (R7). The list
on the left holds the `NREGS` configured indices in the order of the table. -/
abbrev DefaultIndices : Prop := exactIndices.take Config.nRegs =
  [ 0x00#7, 0x01#7, 0x02#7, 0x03#7, 0x04#7, 0x05#7, 0x06#7, 0x07#7, 0x08#7, 0x09#7, 0x0a#7, 0x0b#7, 0x0c#7, 0x0d#7, 0x0e#7,
    0x0f#7, 0x10#7, 0x11#7, 0x12#7, 0x13#7, 0x14#7, 0x15#7, 0x16#7, 0x17#7, 0x18#7, 0x19#7, 0x1f#7 ]

/-- The default opcode map of R104, log 1: the premise of a statement that depends on the numbers of the commands (R7). The list
on the left holds the 26 configured opcodes in the order of the table. -/
abbrev DefaultOpcodes : Prop := exactOpcodes =
  [ 0x00#8, 0x01#8, 0x02#8, 0x03#8, 0x04#8, 0x05#8, 0x06#8, 0x07#8, 0x08#8, 0x09#8, 0x0a#8, 0x0b#8, 0x0c#8, 0x0d#8, 0x0e#8,
    0x0f#8, 0x10#8, 0x11#8, 0x12#8, 0x13#8, 0x14#8, 0x15#8, 0x16#8, 0x17#8, 0x18#8, 0x20#8 ]

/-- The unknown-index rows that name one index each (R152), with that index. -/
def unknownRegisters : List ((RegAccess → Instr) × Index) :=
  [ (.idxUnknown1A, 0x1a#7), (.idxUnknown1B, 0x1b#7), (.idxUnknown1C, 0x1c#7), (.idxUnknown1D, 0x1d#7),
    (.idxUnknown1E, 0x1e#7) ]

/-- The unknown-index rows that carry their index (R152): the two ranges and the catch-all. -/
def unknownRanges : List (Index → RegAccess → Instr) := [.idxUnknown20_3F, .idxUnknown40_7F, .idxUnknown]

/-- The eighteen accepted placeholders (R205 to R222 of 42_command_processor.md). -/
def acceptedNoOps : List Instr :=
  [ .opAssertAtn, .opNegateAck, .opDisconnect, .opReselect, .opReselReceive, .opReselSend, .opWaitSelReceive,
    .opSendStatusCmdComplete, .opSendDisconnect, .opRcvCmd, .opRcvData, .opRcvMsgOut, .opRcv, .opSndStatus, .opSndData,
    .opSndMsgIn, .opSnd, .opTranslateAddr ]

/-- The four Select commands (R224 to R227). -/
def selects : List Instr := [.opSelAtn, .opSel, .opSelAtnXfer, .opSelXfer]

/-- The opcodes of the four Select commands. -/
def selectOpcodes : List Opcode := [Config.opSelAtn, Config.opSel, Config.opSelAtnXfer, Config.opSelXfer]

/-- The 24 supported opcodes: Reset, the accepted placeholders, the Selects and Transfer-Info (R200, R233). -/
def supportedOpcodes : List Opcode :=
  [ Config.opReset, Config.opAssertAtn, Config.opNegateAck, Config.opDisconnect, Config.opReselect, Config.opReselReceive,
    Config.opReselSend, Config.opWaitSelReceive, Config.opSendStatusCmdComplete, Config.opSendDisconnect, Config.opRcvCmd,
    Config.opRcvData, Config.opRcvMsgOut, Config.opRcv, Config.opSndStatus, Config.opSndData, Config.opSndMsgIn,
    Config.opSnd, Config.opTranslateAddr, Config.opSelAtn, Config.opSel, Config.opSelAtnXfer, Config.opSelXfer,
    Config.opTransferInfo ]

/-- `s` with every plain register of the register file zeroed: two states are equal under it when they differ at most there. -/
def State.withoutPlainRegisters (s : State) : State :=
  { s with
    ownId := 0#8, control := 0#8, timeoutPeriod := 0#8, totalSectors := 0#8, totalHeads := 0#8, totalCylinders := 0#16,
    logicalAddress := 0#32, sectorNumber := 0#8, headNumber := 0#8, cylinderNumber := 0#16, targetLun := 0#8,
    commandPhase := 0#8, syncTransfer := 0#8, transferCount := 0#24, destinationId := 0#8, sourceId := 0#8 }

/-- `s` with the two output traces emptied: two states are equal under it when they differ at most in what no rule reads. -/
def State.withoutTraces (s : State) : State := { s with log := [], busTrace := [] }

/-- The script line `line` is the access `i` of the host, or the event `i`, at the head of the script of `s`. -/
def State.nextIs (s : State) (i : Instr) : Prop := ∃ line rest, s.script = line :: rest ∧ decodeLine line = .ok i

/-- The next step writes the byte `v` to the command register: a data-port write that no intercept takes (R149, R258). -/
def State.commandWrite (s : State) (v : Byte) : Prop :=
  s.nextIs (.dw v) ∧ s.state ≠ .polledWaitingDataOut ∧ s.ptr = Config.idxCommand

end Sys2Proof.Machine
end

