-- ==== Sys2Proof/Certificates/Slice0/Obligations.lean ====
section
/-! DEFINITION. The statements for the provers. "Rests on D<n>" in a docstring names a choice that the spec marks as its own
(92_eei_decisions.md); "log <n>" names a choice of this model (notes/assumptions). -/

open Sys2Proof Sys2Proof.Machine

/-! ## Decoding, encoding, stepping -/

/-- R90, and R22 and R104 with their default numbers as premises (R7; D1, D10, log 1): a few words written out from the spec's
encodings decode to their instructions. -/
def Obligations.SampleWordsDecode : Prop :=
  DefaultIndices → DefaultOpcodes →
  decode (.access 0b0000000000#10) = .ar ∧ decode (.access 0b0100000000#10) = .dr ∧
  decode (.access 0b1010010111#10) = .aw 0x97#8 ∧ decode (.access 0b1100000110#10) = .dw 0x06#8 ∧
  decode (.regidx 0b0010101#7 .read) = .idxDestinationId .read ∧
  decode (.regidx 0b0010111#7 (.write 0xff#8)) = .idxScsiStatus (.write 0xff#8) ∧
  decode (.cmd 0b00000110#8) = .opSelAtn ∧ decode (.cmd 0b00100000#8) = .opTransferInfo ∧
  decode (.cmd 0b00011001#8) = .opUnsupported 0x19#8

/-- Decoding the encoded form of a well-formed instruction gives it back, for every row and every operand. The default numbers
are premises (R7; log 1): the rows of unknown indices stand for the numbers that the default map leaves free. -/
def Obligations.DecodeOfEncode : Prop :=
  DefaultIndices → DefaultOpcodes → ∀ i : Instr, i.wellFormed = true → decode (encode i) = i

/-- Encoding what was decoded gives the word back: every index with its access, every opcode, every access word but for the `D`
bits of a read, which R90 says are ignored and written as 0. -/
def Obligations.EncodeOfDecode : Prop :=
  (∀ (p : Index) (a : RegAccess), encode (decode (.regidx p a)) = .regidx p a) ∧
  (∀ op : Byte, encode (decode (.cmd op)) = .cmd op) ∧
  (∀ w : AccessWord, encode (decode (.access w)) =
    .access (if w.getLsbD 9 = true then w else w &&& 0b0100000000#10))

/-- R11, R61: the four admitted accesses are the four port operations. -/
def Obligations.AdmittedAccessesAreThePortOperations : Prop :=
  ∀ v : Byte, ∀ x : Nat,
    decodeLine (.host ⟨false, 0, 1, x⟩) = .ok .ar ∧ decodeLine (.host ⟨false, 1, 1, x⟩) = .ok .dr ∧
    decodeLine (.host ⟨true, 0, 1, v.toNat⟩) = .ok (.aw v) ∧ decodeLine (.host ⟨true, 1, 1, v.toNat⟩) = .ok (.dw v)

/-- R66, rests on D23: an access of another width or at another offset is refused as `BadAccess`. -/
def Obligations.OtherAccessesAreRefused : Prop :=
  ∀ (s : State) (a : HostAccess) (rest : List Line), s.script = .host a :: rest →
    a.width ≠ 1 ∨ (a.offset ≠ 0 ∧ a.offset ≠ 1) → step s = .refused .badAccess

/-- A step takes the next script line, clears the returned byte and runs the decoded instruction (model: logs 3 and 7). -/
def Obligations.StepRunsDecodedLine : Prop :=
  ∀ (s : State) (line : Line) (rest : List Line) (i : Instr), s.script = line :: rest → decodeLine line = .ok i →
    step s = exec i { s with script := rest, result := none }

/-- With no line left no agent acts and the state stays (the model's choice, log 3). -/
def Obligations.NoLineNoChange : Prop :=
  ∀ s : State, s.script = [] → step s = .next s

/-! ## Port operations -/

/-- R120, rests on D30 for "no side effect": `AR` returns the stored bits OR'd with the data-buffer-ready bit and changes
nothing else. -/
def Obligations.AddressPortReadReturnsAuxiliaryStatus : Prop :=
  ∀ s : State, exec .ar s = .next
    { s with result := some (s.auxStatus ||| (if s.fifo.length < 12 then 0x01#8 else 0x00#8)) }

/-- R92: the byte read at the address-pointer port, and at the data port with the pointer at auxiliary status, bit by bit, and
the four values it can take, where the stored low bits are 0 (R38 (e)). -/
def Obligations.AuxiliaryStatusByteLayout : Prop :=
  ∀ i ∈ [Instr.ar, .idxAuxStatus .read], ∀ s : State, s.auxStatus &&& 0x7f#8 = 0x00#8 →
    ∃ (t : State) (b : Byte), exec i s = .next t ∧ t.result = some b ∧
      b.getLsbD 7 = s.auxStatus.getLsbD 7 ∧ b.extractLsb' 1 6 = s.auxStatus.extractLsb' 1 6 ∧ b.extractLsb' 1 6 = 0#6 ∧
      (b.getLsbD 0 = true ↔ s.fifo.length < 12) ∧ b ∈ [0x00#8, 0x01#8, 0x80#8, 0x81#8]

/-- R91, R121, rests on D30 for "nothing else changes": a write of the address-pointer port loads the pointer from the low 7
bits. -/
def Obligations.AddressPortWriteLoadsPointer : Prop :=
  ∀ (s : State) (v : Byte), ∃ p : Index, p.toNat = v.toNat % 128 ∧ exec (.aw v) s = .next { s with ptr := p }

/-- R122, R98, rests on D4, D5, D6: where reads are not intercepted, `DR` completes with the effect of the register row that the
pointer selects, read, and then the pointer advances (R124). -/
def Obligations.DataPortReadRunsRegisterRead : Prop :=
  ∀ s : State, s.state ≠ .polledWaitingDataIn → ∃ t : State, exec (decode (.regidx s.ptr .read)) s = .next t ∧
    exec .dr s = .next { t with
      ptr := if s.ptr = Config.idxScsiStatus ∨ s.ptr = Config.idxAuxStatus then s.ptr else s.ptr + 1#7 }

/-- R123, R98, rests on D4, D5, D6: where writes are not intercepted, `DW v` completes with the effect of the register row that
the pointer selects, written with `v`, and then the pointer advances (R124). -/
def Obligations.DataPortWriteRunsRegisterWrite : Prop :=
  ∀ (s : State) (v : Byte), s.state ≠ .polledWaitingDataOut → ∃ t : State, exec (decode (.regidx s.ptr (.write v))) s = .next t ∧
    exec (.dw v) s = .next { t with
      ptr := if s.ptr = Config.idxScsiStatus ∨ s.ptr = Config.idxAuxStatus then s.ptr else s.ptr + 1#7 }

/-- R124, rests on D4, D5: whatever a completed data-port access did, the pointer after it depends on the pointer before it
alone: it stays at the two status indices, else it is one more, modulo 128. -/
def Obligations.DataPortAccessAdvancesPointer : Prop :=
  ∀ (s t : State) (i : Instr), (i = .dr ∨ ∃ v, i = .dw v) → exec i s = .next t →
    t.ptr.toNat = if s.ptr = Config.idxScsiStatus ∨ s.ptr = Config.idxAuxStatus then s.ptr.toNat else (s.ptr.toNat + 1) % 128

/-- R361, rests on D5: a data-port access at one of the two status indices, intercepted or not, leaves the pointer where it is; so
a sweep of four reads from the destination-id index reads the destination id, the source id and then the SCSI status twice. The
default numbers of R22 are the premise of the sweep (R7; D1, log 1). -/
def Obligations.SweepSticksAtScsiStatus : Prop :=
  (∀ (s t : State) (i : Instr), (i = .dr ∨ ∃ v, i = .dw v) → s.ptr = Config.idxScsiStatus ∨ s.ptr = Config.idxAuxStatus →
    exec i s = .next t → t.ptr = s.ptr) ∧
  (DefaultIndices → ∀ (s : State) (rest : List Line), s.state ≠ .polledWaitingDataIn →
    s.script = .aw (Config.idxDestinationId.setWidth 8) :: .dr :: .dr :: .dr :: .dr :: rest →
    ∃ t2 t3 t4 t5 : State,
      Sys2Proof.core.run 2 s = .next t2 ∧ t2.result = some s.destinationId ∧
      Sys2Proof.core.run 3 s = .next t3 ∧ t3.result = some s.sourceId ∧ t3.ptr = Config.idxScsiStatus ∧
      Sys2Proof.core.run 4 s = .next t4 ∧ t4.result = some s.scsiStatus ∧ t4.ptr = Config.idxScsiStatus ∧
      Sys2Proof.core.run 5 s = .next t5 ∧ t5.result = some s.scsiStatus ∧ t5.ptr = Config.idxScsiStatus)

/-- R153 with the precondition of C9, rests on D6; the default numbers of R22 are the premise (R7; D1, log 1): K data-port writes
from index N visit the registers N to N+K-1 in order, each taking its byte, and touch no other index, when N+K does not pass the
SCSI status index. -/
def Obligations.WriteSweepVisitsRegistersInOrder : Prop :=
  DefaultIndices → ∀ (bytes : List Byte) (s : State) (rest : List Line), s.state ≠ .polledWaitingDataOut →
    s.script = bytes.map Line.dw ++ rest → s.ptr.toNat + bytes.length ≤ Config.idxScsiStatus.toNat →
    ∃ t : State, Sys2Proof.core.run bytes.length s = .next t ∧ t.script = rest ∧ t.state = s.state ∧
      t.ptr.toNat = s.ptr.toNat + bytes.length ∧
      (∀ k : Nat, k < bytes.length → t.x (s.ptr + BitVec.ofNat 7 k) = bytes[k]?) ∧
      (∀ j : Index, j.toNat < s.ptr.toNat ∨ s.ptr.toNat + bytes.length ≤ j.toNat → t.x j = s.x j) ∧
      t.log = s.log ∧ t.busTrace = s.busTrace

/-! ## Registers -/

/-- R96: every multi-byte field is its byte lanes, the most significant at the lowest index. -/
def Obligations.MultiByteFieldsAreTheirLanes : Prop :=
  ∀ (s : State) (a b c d e f g h i j k : Byte),
    s.x Config.idxLogAddrMsb = some a → s.x Config.idxLogAddr2nd = some b → s.x Config.idxLogAddr3rd = some c →
    s.x Config.idxLogAddrLsb = some d → s.x Config.idxTcMsb = some e → s.x Config.idxTcMid = some f →
    s.x Config.idxTcLsb = some g → s.x Config.idxTotalCylMsb = some h → s.x Config.idxTotalCylLsb = some i →
    s.x Config.idxCylNumberMsb = some j → s.x Config.idxCylNumberLsb = some k →
    s.logicalAddress = a ++ b ++ c ++ d ∧ s.transferCount = e ++ f ++ g ∧ s.totalCylinders = h ++ i ∧ s.cylinderNumber = j ++ k

/-- R125 to R129, R136, R137, R140 to R142, R146, R147 (R141, R142 rest on D2): the twelve one-byte registers. A read returns the
stored byte and changes nothing; a write stores all 8 bits, and no other index and nothing outside the plain registers changes. -/
def Obligations.ByteRegistersStoreAndReadBack : Prop :=
  ∀ r ∈ byteRegisters, ∀ s : State,
    (∃ b : Byte, s.x r.2 = some b ∧ exec (r.1 .read) s = .next { s with result := some b }) ∧
    (∀ v : Byte, ∃ t : State, exec (r.1 (.write v)) s = .next t ∧ t.x r.2 = some v ∧
      (∀ j : Index, j ≠ r.2 → t.x j = s.x j) ∧ t.withoutPlainRegisters = s.withoutPlainRegisters)

/-- R130 to R135, R138, R139, R143 to R145 (R130, R131, R138, R139 rest on D3): the eleven byte lanes. A read returns the lane and
changes nothing; a write replaces that lane, and no other lane or index and nothing outside the plain registers changes. -/
def Obligations.LaneRegistersStoreAndReadBack : Prop :=
  ∀ r ∈ laneRegisters, ∀ s : State,
    (∃ b : Byte, s.x r.2 = some b ∧ exec (r.1 .read) s = .next { s with result := some b }) ∧
    (∀ v : Byte, ∃ t : State, exec (r.1 (.write v)) s = .next t ∧ t.x r.2 = some v ∧
      (∀ j : Index, j ≠ r.2 → t.x j = s.x j) ∧ t.withoutPlainRegisters = s.withoutPlainRegisters)

/-- R323: the read of the SCSI status register returns the code, clears `INT`, lowers the line and changes nothing else. -/
def Obligations.ScsiStatusReadAcknowledges : Prop :=
  ∀ s : State, exec (.idxScsiStatus .read) s = .next
    { s with result := some s.scsiStatus, auxStatus := s.auxStatus &&& 0x7f#8, irq := false }

/-- R364: any data-port read that reaches the SCSI status register acknowledges; with the pointer there in
`PolledWaitingDataIn` the read is intercepted and does not. -/
def Obligations.StatusReadThroughPortAcknowledges : Prop :=
  ∀ s : State, s.ptr = Config.idxScsiStatus →
    (s.state ≠ .polledWaitingDataIn → exec .dr s = .next
      { s with result := some s.scsiStatus, auxStatus := s.auxStatus &&& 0x7f#8, irq := false }) ∧
    (s.state = .polledWaitingDataIn → ∀ t : State, exec .dr s = .next t →
      t.auxStatus = s.auxStatus ∧ t.irq = s.irq ∧ t.scsiStatus = s.scsiStatus ∧ t.pos = s.pos + 1)

/-- R148, R151, rests on D8: writes to the two status registers are logged and change nothing else. -/
def Obligations.StatusRegistersIgnoreWrites : Prop :=
  ∀ (s : State) (v : Byte),
    exec (.idxScsiStatus (.write v)) s = .next { s with log := s.log ++ [.readOnlyWrite Config.idxScsiStatus v] } ∧
    exec (.idxAuxStatus (.write v)) s = .next { s with log := s.log ++ [.readOnlyWrite Config.idxAuxStatus v] }

/-- R151, rests on D8: a data-port read of auxiliary status returns what `AR` returns and changes nothing else. -/
def Obligations.AuxStatusIndexReadsAsAddressPort : Prop :=
  ∀ s : State, exec (.idxAuxStatus .read) s = exec .ar s ∧
    exec (.idxAuxStatus .read) s = .next
      { s with result := some (s.auxStatus ||| (if s.fifo.length < 12 then 0x01#8 else 0x00#8)) }

/-- R149, R200, rests on D9: a read of the command register returns the last opcode; a write stores the opcode, runs the command
that the opcode decodes to, and completes. -/
def Obligations.CommandRegisterRunsOpcode : Prop :=
  ∀ s : State, exec (.idxCommand .read) s = .next { s with result := some s.command } ∧
    (∀ op : Byte, ∃ t : State, exec (decode (.cmd op)) { s with command := op } = .next t ∧
      exec (.idxCommand (.write op)) s = .next t)

/-- R181: a push appends at the tail while the queue holds fewer than 12 bytes; else the byte is rejected and logged. -/
def Obligations.DataRegisterWritePushes : Prop :=
  ∀ (s : State) (b : Byte),
    (s.fifo.length < 12 → exec (.idxData (.write b)) s = .next { s with fifo := s.fifo ++ [b] }) ∧
    (12 ≤ s.fifo.length → exec (.idxData (.write b)) s = .next { s with log := s.log ++ [.fifoOverflow b] })

/-- R182, rests on D7: a pop returns the head and removes it; from an empty queue it returns 0 and is logged. -/
def Obligations.DataRegisterReadPops : Prop :=
  ∀ s : State,
    (∀ (b : Byte) (rest : List Byte), s.fifo = b :: rest →
      exec (.idxData .read) s = .next { s with fifo := rest, result := some b }) ∧
    (s.fifo = [] → exec (.idxData .read) s = .next { s with result := some 0x00#8, log := s.log ++ [.fifoUnderflow] })

/-- R180, rests on D7 for the window: what is pushed comes out in the order it entered: after up to 12 `PUT`s on an empty queue the
(k+1)-th `GET` returns the (k+1)-th byte. -/
def Obligations.QueueKeepsOrder : Prop :=
  ∀ (bytes : List Byte) (k : Nat) (s : State) (rest : List Line), s.fifo = [] → bytes.length ≤ 12 → k < bytes.length →
    s.state ≠ .polledWaitingDataOut → s.state ≠ .polledWaitingDataIn →
    s.script = bytes.flatMap Script.put ++ (List.replicate (k + 1) Script.get).flatten ++ rest →
    ∃ t : State, Sys2Proof.core.run (2 * bytes.length + 2 * (k + 1)) s = .next t ∧ t.result = bytes[k]? ∧
      t.fifo = bytes.drop (k + 1) ∧ t.log = s.log

/-- R152: at an index that is none of the 27 a read returns 0 and a write is ignored, both are logged and the pointer advances;
nothing else changes. That the pointer goes from 0x7f to 0 rests on D4. The rows of such indices have the same effect but for the
pointer, which the enclosing access moves. -/
def Obligations.UnknownIndicesReadZeroIgnoreWrites : Prop :=
  (∀ (s : State) (v : Byte), s.ptr ∉ definedIndices →
    (s.state ≠ .polledWaitingDataIn → exec .dr s = .next
      { s with ptr := s.ptr + 1#7, result := some 0x00#8, log := s.log ++ [.unknownRegRead s.ptr] }) ∧
    (s.state ≠ .polledWaitingDataOut → exec (.dw v) s = .next
      { s with ptr := s.ptr + 1#7, log := s.log ++ [.unknownRegWrite s.ptr v] })) ∧
  (∀ r ∈ unknownRegisters, ∀ (s : State) (v : Byte),
    exec (r.1 .read) s = .next { s with result := some 0x00#8, log := s.log ++ [.unknownRegRead r.2] } ∧
    exec (r.1 (.write v)) s = .next { s with log := s.log ++ [.unknownRegWrite r.2 v] }) ∧
  (∀ r ∈ unknownRanges, ∀ (p : Index) (s : State) (v : Byte),
    exec (r p .read) s = .next { s with result := some 0x00#8, log := s.log ++ [.unknownRegRead p] } ∧
    exec (r p (.write v)) s = .next { s with log := s.log ++ [.unknownRegWrite p v] })

/-! ## Commands -/

/-- R205 to R222, rests on D10: the eighteen accepted placeholders have no effect. -/
def Obligations.AcceptedCommandsDoNothing : Prop :=
  ∀ i ∈ acceptedNoOps, ∀ s : State, exec i s = .next s

/-- R233: an opcode that is none of the 24 supported ones is logged and changes nothing else; written to the command register it is
held there afterwards. -/
def Obligations.UnsupportedOpcodesAreLogged : Prop :=
  (∀ op : Byte, op ∉ supportedOpcodes → ∀ s : State,
    exec (decode (.cmd op)) s = .next { s with log := s.log ++ [.unsupportedCommand op] } ∧
    exec (.idxCommand (.write op)) s = .next { s with command := op, log := s.log ++ [.unsupportedCommand op] }) ∧
  (∀ s : State, exec .opAbort s = .next { s with log := s.log ++ [.unsupportedCommand Config.opAbort] } ∧
    exec .opSetIdi s = .next { s with log := s.log ++ [.unsupportedCommand Config.opSetIdi] }) ∧
  (∀ (op : Byte) (s : State), exec (.opUnsupported op) s = .next { s with log := s.log ++ [.unsupportedCommand op] })

/-- R201, rests on D15: the Reset command resets the bus and drops the device and unit bindings; nothing else changes. -/
def Obligations.ResetCommandDropsBindings : Prop :=
  ∀ s : State, exec .opReset s = .next
    { s with curDev := none, curLun := none, busTrace := s.busTrace ++ [.reset], busCalls := s.busCalls + 1 }

/-- R223 to R227 with the target present, rests on D13, D14: the device is bound, the unit binding dropped, and the interrupt
raised with the selection-complete code. -/
def Obligations.SelectBindsPresentTarget : Prop :=
  ∀ i ∈ selects, ∀ (s : State) (h : DevHandle), s.nextDevice = some h → exec i s = .next
    { s with
      curDev := some h, curLun := none, scsiStatus := Config.stSelectComplete, auxStatus := s.auxStatus ||| 0x80#8, irq := true,
      devAnswers := s.devAnswers.tail, busCalls := s.busCalls + 1,
      busTrace := s.busTrace ++ [.findDevice (s.destinationId &&& Config.destIdMask) (some h)] }

/-- R223 to R227 with the target absent, rests on D13, D14: both bindings are dropped and nothing else of the block changes. -/
def Obligations.SelectOfAbsentTargetDropsBindings : Prop :=
  ∀ i ∈ selects, ∀ s : State, s.nextDevice = none → exec i s = .next
    { s with
      curDev := none, curLun := none, devAnswers := s.devAnswers.tail, busCalls := s.busCalls + 1,
      busTrace := s.busTrace ++ [.findDevice (s.destinationId &&& Config.destIdMask) none] }

/-- R314: a failed selection completes without interrupt, status change or log event. -/
def Obligations.SelectionFailureIsSilent : Prop :=
  ∀ i ∈ selects, ∀ s : State, s.nextDevice = none → ∃ t : State, exec i s = .next t ∧
    t.irq = s.irq ∧ t.auxStatus = s.auxStatus ∧ t.scsiStatus = s.scsiStatus ∧ t.log = s.log

/-- R229, R316: Transfer-Info without a device, or with a unit the bus does not have, is logged and makes no state transition. That
nothing else of the block changes, the case of no device and what the bus is asked rest on D13 (log 2) and D16. -/
def Obligations.TransferInfoWithoutUnit : Prop :=
  (∀ s : State, s.curDev = none → exec .opTransferInfo s = .next { s with log := s.log ++ [.lunNotFound s.targetLun] }) ∧
  (∀ (s : State) (d : DevHandle), s.curDev = some d → s.nextLun = none → exec .opTransferInfo s = .next
    { s with
      log := s.log ++ [.lunNotFound s.targetLun], lunAnswers := s.lunAnswers.tail, busCalls := s.busCalls + 1,
      busTrace := s.busTrace ++ [.findLun d (s.targetLun &&& Config.targetLunMask) none] })

/-- R230, R315: Transfer-Info with the unit found and a DMA mode that is not polled is logged and keeps the unit; nothing else of
the block changes. What the bus is asked, with its mask, and the binding before the mode test rest on D13 (log 2) and D16. -/
def Obligations.TransferInfoUnsupportedMode : Prop :=
  ∀ (s : State) (d : DevHandle) (u : LunHandle), s.curDev = some d → s.nextLun = some u →
    s.control.extractLsb' 5 3 ≠ Config.dmaModePolled → exec .opTransferInfo s = .next
    { s with
      curLun := some u, log := s.log ++ [.unsupportedDmaMode (s.control.extractLsb' 5 3)],
      lunAnswers := s.lunAnswers.tail, busCalls := s.busCalls + 1,
      busTrace := s.busTrace ++ [.findLun d (s.targetLun &&& Config.targetLunMask) (some u)] }

/-- R231, R271, R272, rests on D13, D16, D28: a polled Transfer-Info in phase DataOut waits for `transfer_count` bytes; a pending
transfer is superseded, which is logged. What the fresh buffer holds is left open (U10). -/
def Obligations.TransferInfoStartsDataOut : Prop :=
  ∀ (s : State) (d : DevHandle) (u : LunHandle), s.curDev = some d → s.nextLun = some u →
    s.control.extractLsb' 5 3 = Config.dmaModePolled → s.phase = .dataOut →
    ∃ fresh : List Byte, fresh.length = s.transferCount.toNat ∧ exec .opTransferInfo s = .next
    { s with
      curLun := some u, state := .polledWaitingDataOut, buf := fresh, pos := 0, size := s.transferCount.toNat,
      log := if s.state = .polledWaitingDataOut ∨ s.state = .polledWaitingDataIn ∨ s.state = .polledExecuting
        then s.log ++ [.transferSuperseded] else s.log,
      lunAnswers := s.lunAnswers.tail, busCalls := s.busCalls + 1,
      busTrace := s.busTrace ++ [.findLun d (s.targetLun &&& Config.targetLunMask) (some u)] }

/-- R232, R275, R295, R300, rests on D13, D16, D17, D28: a polled Transfer-Info in phase DataIn enqueues a read and takes the bytes
the bus hands back as its buffer; the request handle is fresh (log 6). The bus's answer is the one after the unit lookup (log 5). -/
def Obligations.TransferInfoStartsDataIn : Prop :=
  ∀ (s : State) (d : DevHandle) (u : LunHandle) (h : ReqHandle) (len : Int) (data : List Byte),
    s.curDev = some d → s.nextLun = some u →
    s.control.extractLsb' 5 3 = Config.dmaModePolled → s.phase = .dataIn →
    ({ s with busCalls := s.busCalls + 1 }).nextRead = (h, len, data) → h ∉ s.issued ∧ exec .opTransferInfo s = .next
    { s with
      curLun := some u, curReq := some h, state := .polledWaitingDataIn, buf := data, pos := 0, size := data.length,
      outstanding := addOutstanding len s.outstanding, issued := h :: s.issued,
      log := if s.state = .polledWaitingDataOut ∨ s.state = .polledWaitingDataIn ∨ s.state = .polledExecuting
        then s.log ++ [.transferSuperseded] else s.log,
      lunAnswers := s.lunAnswers.tail, readAnswers := s.readAnswers.tail, busCalls := s.busCalls + 1 + 1,
      busTrace := s.busTrace ++ [.findLun d (s.targetLun &&& Config.targetLunMask) (some u)] ++
        [.enqueueRead u s.transferCount.toNat h len data] }

/-- R235: no command changes the pointer, the queue, the phase, the command register or any plain register. -/
def Obligations.CommandsLeaveRegisterFileAlone : Prop :=
  ∀ (op : Byte) (s t : State), exec (decode (.cmd op)) s = .next t →
    t.ptr = s.ptr ∧ t.fifo = s.fifo ∧ t.phase = s.phase ∧ t.command = s.command ∧ t.result = s.result ∧
    (∀ r ∈ byteRegisters ++ laneRegisters, t.x r.2 = s.x r.2)

/-! ## The transfer buffer -/

/-- R250: an intercepted data-port write that does not fill the buffer stores the byte at the cursor, moves the cursor and, by
R124 (D5), the pointer; nothing else changes. -/
def Obligations.InterceptedWriteAppends : Prop :=
  ∀ (s : State) (v : Byte), s.state = .polledWaitingDataOut → s.pos + 1 < s.size → exec (.dw v) s = .next
    { s with
      buf := s.buf.set s.pos v, pos := s.pos + 1,
      ptr := if s.ptr = Config.idxScsiStatus ∨ s.ptr = Config.idxAuxStatus then s.ptr else s.ptr + 1#7 }

/-- R251, R292, rests on D5 for the pointer and on D19 (log 21) for the length made outstanding at the enqueue: the intercepted
write that fills the buffer submits exactly the buffer's bytes as one request on the bound unit and waits for its completion; the
request handle is fresh (log 6) and no interrupt is raised. -/
def Obligations.InterceptedWriteSubmits : Prop :=
  ∀ (s : State) (v : Byte) (h : ReqHandle) (len : Int), s.state = .polledWaitingDataOut → s.pos + 1 = s.size →
    s.buf.length = s.size → s.nextRequest = (h, len) → h ∉ s.issued ∧ exec (.dw v) s = .next
    { s with
      buf := s.buf.set s.pos v, pos := s.size, curReq := some h, state := .polledExecuting,
      outstanding := addOutstanding len s.outstanding, issued := h :: s.issued,
      reqAnswers := s.reqAnswers.tail, busCalls := s.busCalls + 1,
      busTrace := s.busTrace ++ [.enqueueRequest s.curLun (s.buf.set s.pos v) s.size h len],
      ptr := if s.ptr = Config.idxScsiStatus ∨ s.ptr = Config.idxAuxStatus then s.ptr else s.ptr + 1#7 }

/-- R252, rests on D18: an intercepted write with the cursor at or past the size faults. -/
def Obligations.InterceptedWriteOutOfRangeFaults : Prop :=
  ∀ (s : State) (v : Byte), s.state = .polledWaitingDataOut → s.size ≤ s.pos → exec (.dw v) s = .fault .xferOutOfRange

/-- R254, R255, rests on D5 for the pointer: an intercepted data-port read returns the byte at the cursor, moves the cursor and, by
R124, the pointer; nothing else changes, the interrupt not even at the SCSI status index. With the cursor at or past the size it
faults. -/
def Obligations.InterceptedReadFetchesOrFaults : Prop :=
  ∀ s : State, s.state = .polledWaitingDataIn →
    (∀ b : Byte, s.pos < s.size → s.buf[s.pos]? = some b → exec .dr s = .next
      { s with
        pos := s.pos + 1, result := some b,
        ptr := if s.ptr = Config.idxScsiStatus ∨ s.ptr = Config.idxAuxStatus then s.ptr else s.ptr + 1#7 }) ∧
    (s.size ≤ s.pos → exec .dr s = .fault .xferOutOfRange)

/-- R250, R251 from end to end, rests on D19 (log 21) for the length made outstanding at the enqueue: `size` data-port writes into a
fresh buffer submit one request of exactly those bytes, in the order written, on the bound unit, and leave the block waiting for its
completion; nothing else is called and nothing raised. The clause on `issued`, the record of the request handles returned, is the
model's choice (log 6). -/
def Obligations.PolledDataOutSubmitsBytesWritten : Prop :=
  ∀ (bytes : List Byte) (s : State) (rest : List Line) (h : ReqHandle) (len : Int), bytes ≠ [] →
    s.state = .polledWaitingDataOut → s.pos = 0 → s.size = bytes.length → s.buf.length = s.size →
    s.nextRequest = (h, len) → s.script = bytes.map Line.dw ++ rest →
    ∃ t : State, Sys2Proof.core.run bytes.length s = .next t ∧ t.script = rest ∧ t.state = .polledExecuting ∧ t.buf = bytes ∧
      t.pos = t.size ∧ t.size = s.size ∧ t.curReq = some h ∧ t.outstanding = addOutstanding len s.outstanding ∧
      t.issued = h :: s.issued ∧
      t.busTrace = s.busTrace ++ [.enqueueRequest s.curLun bytes bytes.length h len] ∧
      t.irq = s.irq ∧ t.auxStatus = s.auxStatus ∧ t.scsiStatus = s.scsiStatus ∧ t.log = s.log

/-- R254, R255, R256 from end to end: the k-th data-port read of a drain returns the k-th byte of the buffer and the state stays;
the read after the last byte faults. -/
def Obligations.PolledDataInReturnsBytesThenFaults : Prop :=
  ∀ (s : State) (rest : List Line), s.state = .polledWaitingDataIn → s.pos = 0 → s.buf.length = s.size →
    s.script = List.replicate (s.size + 1) Line.dr ++ rest →
    (∀ k : Nat, k < s.size → ∃ t : State, Sys2Proof.core.run (k + 1) s = .next t ∧ t.result = s.buf[k]? ∧ t.pos = k + 1 ∧
      t.state = .polledWaitingDataIn ∧ t.auxStatus = s.auxStatus ∧ t.fifo = s.fifo) ∧
    Sys2Proof.core.run (s.size + 1) s = .fault .xferOutOfRange

/-! ## Events -/

/-- R350, rests on D21: device reset sets the state and the phase and drops the three bindings; nothing else changes. -/
def Obligations.DeviceResetClearsStateAndBindings : Prop :=
  ∀ s : State, exec .deviceReset s = .next
    { s with state := .idle, phase := .dataOut, curDev := none, curLun := none, curReq := none }

/-- R353: a second device reset changes nothing, and neither touches the status registers or the line. -/
def Obligations.DeviceResetIsIdempotent : Prop :=
  ∀ s : State, ∃ t : State, exec .deviceReset s = .next t ∧ exec .deviceReset t = .next t ∧
    t.state = .idle ∧ t.phase = .dataOut ∧ t.auxStatus = s.auxStatus ∧ t.scsiStatus = s.scsiStatus ∧ t.irq = s.irq

/-- R262, R300, rests on D19: in `PolledExecuting` a completion takes the block to the Complete state of the sign of the length,
sets the phase, and raises the interrupt with that state's code. That nothing else changes covers the trace of bus calls: that a
completion is no entry of it is log 10's choice (DEDUCED, unsafe). -/
def Obligations.CompletionEndsExecuting : Prop :=
  ∀ (s : State) (len : Int), s.state = .polledExecuting → len ∈ s.outstanding →
    (0 < len → exec (.busComplete len) s = .next
      { s with
        state := .completeDataIn, phase := .dataIn, outstanding := s.outstanding.erase len,
        scsiStatus := Config.stXferDoneDataIn, auxStatus := s.auxStatus ||| 0x80#8, irq := true }) ∧
    (len ≤ 0 → exec (.busComplete len) s = .next
      { s with
        state := .completeDataOut, phase := .dataOut, outstanding := s.outstanding.erase len,
        scsiStatus := Config.stXferDoneDataOut, auxStatus := s.auxStatus ||| 0x80#8, irq := true })

/-- R263, R300, rests on D19: in any other state a completion is logged and changes nothing of the block. That nothing else changes
covers the trace of bus calls: that a completion is no entry of it is log 10's choice (DEDUCED, unsafe). -/
def Obligations.StrayCompletionIsLogged : Prop :=
  ∀ (s : State) (len : Int), s.state ≠ .polledExecuting → len ∈ s.outstanding → exec (.busComplete len) s = .next
    { s with outstanding := s.outstanding.erase len, log := s.log ++ [.strayCompletion len] }

/-- The model's choice (log 8): a completion of a length that is not outstanding is refused; R300 says it is not enabled. -/
def Obligations.CompletionNotOutstandingIsRefused : Prop :=
  ∀ (s : State) (len : Int), len ∉ s.outstanding → exec (.busComplete len) s = .refused (.notOutstanding len)

/-! ## The whole machine -/

/-- R351, rests on D22: after power-on `AR` returns 0x01, the line is low, every index that has storage holds 0, and the state is
`Idle` in phase DataOut with nothing bound, queued or outstanding. The clause on `issued`, the record of the request handles
returned, is the model's choice (log 6): the spec gives no such record. -/
def Obligations.PowerOnState : Prop :=
  (∃ t : State, exec .ar State.reset = .next t ∧ t.result = some 0x01#8) ∧ State.reset.irq = false ∧
  (∀ (p : Index) (b : Byte), State.reset.x p = some b → b = 0x00#8) ∧
  State.reset.ptr = 0#7 ∧ State.reset.state = .idle ∧ State.reset.phase = .dataOut ∧ State.reset.fifo = [] ∧
  State.reset.buf = [] ∧ State.reset.pos = 0 ∧ State.reset.size = 0 ∧ State.reset.curDev = none ∧
  State.reset.curLun = none ∧ State.reset.curReq = none ∧ State.reset.outstanding = [] ∧ State.reset.issued = [] ∧
  State.reset.log = [] ∧ State.reset.busTrace = []

/-- The invariants hold after power-on (R351, D22): those of R38 (`State.Inv`), and those of `State.AwaitInv`, which are not in R38:
the multiset of R300 in its form (log 8), the request handles returned pairwise different and the one in flight among them (log 6,
for R292 and R295), a completion outstanding while one is awaited (R241, R300), and the phase that R266 rests on. -/
def Obligations.InvariantsHoldAtPowerOn : Prop :=
  State.reset.Inv ∧ State.reset.AwaitInv

/-- R38: every step of every agent keeps the invariants (b) to (h). -/
def Obligations.EveryStepKeepsInvariants : Prop :=
  ∀ s t : State, s.Inv → step s = .next t → t.Inv

/-- R300, R241, R292, R295: every step keeps the outstanding multiset in its form, the request handles returned pairwise different
and the one in flight among them, a completion outstanding while one is awaited, and the phase DataOut while a buffer is filled or a
completion awaited (the multiset's form is log 8's, the list of handles log 6's). -/
def Obligations.EveryStepKeepsAwaitInvariants : Prop :=
  ∀ s t : State, s.AwaitInv → step s = .next t → t.AwaitInv

/-- R241: the transition table is complete: a step that changes the state is a device reset, a polled Transfer-Info on a device
that is bound, the write that fills the buffer, or the completion awaited, each to the state the table gives. -/
def Obligations.StateChangesOnlyByTable : Prop :=
  ∀ s t : State, step s = .next t → t.state ≠ s.state →
    (s.nextIs .deviceReset ∧ t.state = .idle ∧ t.phase = .dataOut) ∨
    (s.commandWrite Config.opTransferInfo ∧ s.curDev ≠ none ∧ s.nextLun ≠ none ∧
      s.control.extractLsb' 5 3 = Config.dmaModePolled ∧ t.phase = s.phase ∧ t.pos = 0 ∧
      ((s.phase = .dataOut ∧ t.state = .polledWaitingDataOut ∧ t.size = s.transferCount.toNat) ∨
       (s.phase = .dataIn ∧ t.state = .polledWaitingDataIn))) ∨
    (s.state = .polledWaitingDataOut ∧ (∃ v : Byte, s.nextIs (.dw v)) ∧ s.pos + 1 = s.size ∧ t.state = .polledExecuting) ∨
    (s.state = .polledExecuting ∧ ∃ len : Int, s.nextIs (.busComplete len) ∧ len ∈ s.outstanding ∧
      ((0 < len ∧ t.state = .completeDataIn ∧ t.phase = .dataIn) ∨ (len ≤ 0 ∧ t.state = .completeDataOut ∧ t.phase = .dataOut)))

/-- R320: each of the three causes raises the line with its code; and the line goes high, or the code changes, only in a step of
one of the three. -/
def Obligations.InterruptHasThreeCauses : Prop :=
  (∀ (s : State) (op : Byte), op ∈ selectOpcodes → s.commandWrite op → s.nextDevice ≠ none →
    ∃ t : State, step s = .next t ∧ t.irq = true ∧ t.scsiStatus = Config.stSelectComplete) ∧
  (∀ (s : State) (len : Int), s.nextIs (.busComplete len) → len ∈ s.outstanding → s.state = .polledExecuting →
    ∃ t : State, step s = .next t ∧ t.irq = true ∧
      t.scsiStatus = if 0 < len then Config.stXferDoneDataIn else Config.stXferDoneDataOut) ∧
  (∀ s t : State, step s = .next t → (s.irq = false ∧ t.irq = true) ∨ t.scsiStatus ≠ s.scsiStatus →
    ((∃ op ∈ selectOpcodes, s.commandWrite op) ∧ s.nextDevice ≠ none ∧ t.scsiStatus = Config.stSelectComplete) ∨
    (s.state = .polledExecuting ∧ ∃ len : Int, s.nextIs (.busComplete len) ∧
      ((len ≤ 0 ∧ t.scsiStatus = Config.stXferDoneDataOut) ∨ (0 < len ∧ t.scsiStatus = Config.stXferDoneDataIn))))

/-- R321, rests on D20: `INT` goes from 1 to 0 only by a data-port read that reaches the SCSI status register. -/
def Obligations.InterruptClearedOnlyByStatusRead : Prop :=
  ∀ s t : State, step s = .next t → s.auxStatus.getLsbD 7 = true → t.auxStatus.getLsbD 7 = false →
    s.nextIs .dr ∧ s.ptr = Config.idxScsiStatus ∧ s.state ≠ .polledWaitingDataIn

/-- R266: once the phase is DataIn it stays DataIn, and neither `PolledWaitingDataOut` nor `PolledExecuting` is reached, in every
run without a device reset. -/
def Obligations.PhaseLatchesUntilDeviceReset : Prop :=
  ∀ (n : Nat) (s t : State), s.AwaitInv → s.phase = .dataIn → Line.reset ∉ s.script → Sys2Proof.core.run n s = .next t →
    t.phase = .dataIn ∧ t.state ≠ .polledExecuting ∧ t.state ≠ .polledWaitingDataOut

/-- R318, R252, R255, rests on D18: under the invariants a step faults only on an intercepted access with the cursor at the size,
on the write side only in a transfer of count 0. -/
def Obligations.FaultOnlyPastTransferSize : Prop :=
  ∀ (s : State) (f : Fault), s.Inv → step s = .fault f → f = .xferOutOfRange ∧ s.pos = s.size ∧
    ((s.state = .polledWaitingDataIn ∧ s.nextIs .dr) ∨
     (s.state = .polledWaitingDataOut ∧ s.size = 0 ∧ ∃ v : Byte, s.nextIs (.dw v)))

/-- R12, R66, R300 (D23; log 8): a step refuses only a host access outside the interface and a completion that is not
outstanding. -/
def Obligations.RefusalOnlyOutsideInterface : Prop :=
  ∀ (s : State) (r : Refusal), step s = .refused r →
    (r = .badAccess ∧ ∃ (a : HostAccess) (rest : List Line), s.script = .host a :: rest ∧ a.admitted = false) ∨
    (∃ (len : Int) (rest : List Line), r = .notOutstanding len ∧ s.script = .complete len :: rest ∧ len ∉ s.outstanding)

/-- R13, R310, rests on D26: the log and the trace of bus calls are read by no rule: two states that differ only there step to
states that differ only there, or stop alike. -/
def Obligations.TracesAreInvisible : Prop :=
  ∀ (s : State) (log : List LogEvent) (calls : List BusCall),
    (∀ t : State, step s = .next t → ∃ t' : State, step { s with log := log, busTrace := calls } = .next t' ∧
      t'.withoutTraces = t.withoutTraces) ∧
    (∀ f : Fault, step s = .fault f → step { s with log := log, busTrace := calls } = .fault f) ∧
    (∀ r : Refusal, step s = .refused r → step { s with log := log, busTrace := calls } = .refused r)
end

