-- ==== Sys2Proof/Laws/Decode.lean ====
section
/-! SUPPORT. Laws of the decoder: the number of a decoded row is the number decoded, and script lines decode as written. -/

namespace Sys2Proof

/-- The index that a row of the index map stands for. -/
def IndexRow.index : IndexRow → Index
  | .ownId => Config.idxOwnId
  | .control => Config.idxControl
  | .timeoutPeriod => Config.idxTimeoutPeriod
  | .totalSectors => Config.idxTotalSectors
  | .totalHeads => Config.idxTotalHeads
  | .totalCylMsb => Config.idxTotalCylMsb
  | .totalCylLsb => Config.idxTotalCylLsb
  | .logAddrMsb => Config.idxLogAddrMsb
  | .logAddr2nd => Config.idxLogAddr2nd
  | .logAddr3rd => Config.idxLogAddr3rd
  | .logAddrLsb => Config.idxLogAddrLsb
  | .sectorNumber => Config.idxSectorNumber
  | .headNumber => Config.idxHeadNumber
  | .cylNumberMsb => Config.idxCylNumberMsb
  | .cylNumberLsb => Config.idxCylNumberLsb
  | .targetLun => Config.idxTargetLun
  | .commandPhase => Config.idxCommandPhase
  | .syncTransfer => Config.idxSyncTransfer
  | .tcMsb => Config.idxTcMsb
  | .tcMid => Config.idxTcMid
  | .tcLsb => Config.idxTcLsb
  | .destinationId => Config.idxDestinationId
  | .sourceId => Config.idxSourceId
  | .scsiStatus => Config.idxScsiStatus
  | .command => Config.idxCommand
  | .data => Config.idxData
  | .auxStatus => Config.idxAuxStatus
  | .unknown1A => 0x1a#7
  | .unknown1B => 0x1b#7
  | .unknown1C => 0x1c#7
  | .unknown1D => 0x1d#7
  | .unknown1E => 0x1e#7
  | .unknown20_3F p => p
  | .unknown40_7F p => p
  | .unknown p => p

/-- The opcode that a row of the opcode map stands for. -/
def CommandRow.opcode : CommandRow → Byte
  | .reset => Config.opReset
  | .abort => Config.opAbort
  | .assertAtn => Config.opAssertAtn
  | .negateAck => Config.opNegateAck
  | .disconnect => Config.opDisconnect
  | .reselect => Config.opReselect
  | .selAtn => Config.opSelAtn
  | .sel => Config.opSel
  | .selAtnXfer => Config.opSelAtnXfer
  | .selXfer => Config.opSelXfer
  | .reselReceive => Config.opReselReceive
  | .reselSend => Config.opReselSend
  | .waitSelReceive => Config.opWaitSelReceive
  | .sendStatusCmdComplete => Config.opSendStatusCmdComplete
  | .sendDisconnect => Config.opSendDisconnect
  | .setIdi => Config.opSetIdi
  | .rcvCmd => Config.opRcvCmd
  | .rcvData => Config.opRcvData
  | .rcvMsgOut => Config.opRcvMsgOut
  | .rcv => Config.opRcv
  | .sndStatus => Config.opSndStatus
  | .sndData => Config.opSndData
  | .sndMsgIn => Config.opSndMsgIn
  | .snd => Config.opSnd
  | .translateAddr => Config.opTranslateAddr
  | .transferInfo => Config.opTransferInfo
  | .unsupported op => op

/-- The row selected by an index stands for that index. -/
theorem index_decodeIndex (p : Index) : (decodeIndex p).index = p := by
  revert p; decide

set_option maxRecDepth 4096 in
/-- The row selected by an opcode stands for that opcode. -/
theorem opcode_decodeCommand (op : Byte) : (decodeCommand op).opcode = op := by
  revert op; decide

theorem extractLsb'_accessWord (w a : Bool) (v : Byte) : (accessWord w a v).extractLsb' 0 8 = v := by
  revert v; cases w <;> cases a <;> decide

theorem getLsbD_accessWord (w a : Bool) (v : Byte) :
    (accessWord w a v).getLsbD 9 = w ∧ (accessWord w a v).getLsbD 8 = a := by
  revert v; cases w <;> cases a <;> decide

/-- An access word decodes by its two flags and its data byte. -/
theorem decodeAccess_accessWord (w a : Bool) (v : Byte) :
    decodeAccess (accessWord w a v) = match w, a with
      | false, false => .ar
      | false, true => .dr
      | true, false => .aw v
      | true, true => .dw v := by
  cases w <;> cases a <;>
    simp only [decodeAccess, (getLsbD_accessWord _ _ v).1, (getLsbD_accessWord _ _ v).2, extractLsb'_accessWord]

@[simp] theorem decodeLine_ar : decodeLine .ar = .ok .ar := by decide

@[simp] theorem decodeLine_dr : decodeLine .dr = .ok .dr := by decide

@[simp] theorem decodeLine_aw (v : Byte) : decodeLine (.aw v) = .ok (.aw v) := by
  revert v; decide

@[simp] theorem decodeLine_dw (v : Byte) : decodeLine (.dw v) = .ok (.dw v) := by
  revert v; decide

/-- The platform address of an access in the window gives the access back, whatever `BASE` and the window's size are. -/
theorem ofAddress?_address (a : HostAccess) (h : a.offset < Config.windowSize) :
    HostAccess.ofAddress? a.write a.address a.width a.value = some a := by
  simp [HostAccess.ofAddress?, HostAccess.address, h]

/-- Both ports lie in the window, and every admitted access is at a port. -/
theorem admitted_in_window {a : HostAccess} (h : a.admitted = true) : a.offset < Config.windowSize := by
  have h2 : a.offset = 0 ∨ a.offset = 1 := by
    simp [HostAccess.admitted, Config.offAddr, Config.offData] at h; omega
  unfold Config.windowSize; omega

/-- What a script line can decode to: one of the six kinds of step of R8. -/
theorem decodeLine_cases {line : Line} {i : Instr} (h : decodeLine line = .ok i) :
    i = .ar ∨ i = .dr ∨ (∃ v, i = .aw v) ∨ (∃ v, i = .dw v) ∨ (line = .reset ∧ i = .deviceReset) ∨
      ∃ len, line = .complete len ∧ i = .busComplete len := by
  cases line with
  | host a =>
    unfold decodeLine HostAccess.word? at h
    dsimp only at h
    split at h
    · rename_i w hw
      split at hw
      · cases hw
        simp only [decode, decodeAccess_accessWord] at h
        split at h <;> cases h <;> simp
      · cases hw
    · cases h
  | reset => cases h; simp [decode]
  | complete len => cases h; simp [decode]

/-- Only a host access outside the interface is rejected. -/
theorem decodeLine_error {line : Line} {e : DecodeError} (h : decodeLine line = .error e) :
    ∃ a : HostAccess, line = .host a ∧ a.admitted = false := by
  cases line with
  | host a =>
    refine ⟨a, rfl, ?_⟩
    cases ha : a.admitted with
    | false => rfl
    | true => simp [decodeLine, HostAccess.word?, ha] at h
  | reset => cases h
  | complete len => cases h

end Sys2Proof
end

