-- ==== Sys2Proof/Laws/Operands.lean ====
section
/-! SUPPORT. Laws of the byte lanes, the flags and the pointer. -/

namespace Sys2Proof.Machine

/-- `x[i]` in numbers: a lane is `REG_BITS = 8` bits (R6). -/
theorem getLane_eq {n : Nat} (f : BitVec n) (k : Nat) : getLane f k = f.extractLsb' (8 * k) 8 := rfl

/-- The pointer byte in numbers: the low `PTR_BITS = 7` bits (R6, R91). -/
theorem loadIndex_eq (v : Byte) : loadIndex v = v.extractLsb' 0 7 := rfl

/-- The DMA mode in numbers: the three bits from bit 5 (R6, R93). -/
theorem dmaMode_eq (s : State) : dmaMode s = s.control.extractLsb' 5 3 := rfl

theorem getLsbD_ff (i : Nat) : (0xff#8).getLsbD i = decide (i < 8) := by
  by_cases h : i < 8
  · interval_cases i <;> rfl
  · simp [BitVec.getLsbD_of_ge _ _ (Nat.le_of_not_lt h), h]

/-- A lane write in numbers (R6). -/
theorem putLane_eq {n : Nat} (f : BitVec n) (k : Nat) (v : Byte) :
    putLane f k v = (f &&& ~~~((0xff#8).setWidth n <<< (8 * k))) ||| (v.setWidth n <<< (8 * k)) := rfl

/-- A lane just written reads as the byte written. -/
theorem getLane_putLane_same {n : Nat} (f : BitVec n) (k : Nat) (v : Byte) (h : 8 * k + 8 ≤ n) :
    getLane (putLane f k v) k = v := by
  apply BitVec.eq_of_getLsbD_eq
  intro i (hi : i < 8)
  have h1 : 8 * k + i < n := by omega
  simp [getLane_eq, putLane_eq, getLsbD_ff, hi, h1]

/-- Writing one lane leaves every other lane as it was. -/
theorem getLane_putLane_other {n : Nat} (f : BitVec n) (j k : Nat) (v : Byte) (hj : 8 * j + 8 ≤ n) (hne : j ≠ k) :
    getLane (putLane f k v) j = getLane f j := by
  apply BitVec.eq_of_getLsbD_eq
  intro i (hi : i < 8)
  have h1 : 8 * j + i < n := by omega
  simp only [getLane_eq, putLane_eq, BitVec.getLsbD_extractLsb', BitVec.getLsbD_or, BitVec.getLsbD_and, BitVec.getLsbD_not,
    BitVec.getLsbD_shiftLeft, BitVec.getLsbD_setWidth, getLsbD_ff, hi, h1, decide_true, Bool.true_and]
  rcases Nat.lt_or_gt_of_ne hne with h | h
  · have h2 : 8 * j + i < 8 * k := by omega
    simp [h2]
  · have h2 : ¬ 8 * j + i < 8 * k := by omega
    have h3 : ¬ 8 * j + i - 8 * k < 8 := by omega
    have h4 : v.getLsbD (8 * j + i - 8 * k) = false := BitVec.getLsbD_of_ge _ _ (by simp only [Config.regBits]; omega)
    simp [h3, h4]

@[simp] theorem getLsbD_setInt (aux : Byte) : (setInt aux).getLsbD 7 = true := by
  revert aux; decide

@[simp] theorem getLsbD_clearInt (aux : Byte) : (clearInt aux).getLsbD 7 = false := by
  revert aux; decide

theorem setInt_low (aux : Byte) : setInt aux &&& 0x7f#8 = aux &&& 0x7f#8 := by
  revert aux; decide

theorem clearInt_low (aux : Byte) : clearInt aux &&& 0x7f#8 = aux &&& 0x7f#8 := by
  revert aux; decide

theorem clearInt_eq (aux : Byte) : clearInt aux = aux &&& 0x7f#8 := by
  revert aux; decide

/-- Away from the two status indices the pointer goes up by one, in the width of an index. -/
theorem nextPtr_of_ne {p : Index} (h : ¬(p = Config.idxScsiStatus ∨ p = Config.idxAuxStatus)) : nextPtr p = p + 1#7 :=
  if_neg h

/-- At the two status indices the pointer stays. -/
theorem nextPtr_of_status {p : Index} (h : p = Config.idxScsiStatus ∨ p = Config.idxAuxStatus) : nextPtr p = p :=
  if_pos h

/-- The pointer stays at the two status indices and else goes up by one modulo 128. -/
theorem toNat_nextPtr (p : Index) :
    (nextPtr p).toNat =
      if p = Config.idxScsiStatus ∨ p = Config.idxAuxStatus then p.toNat else (p.toNat + 1) % 128 := by
  unfold nextPtr
  split
  · rfl
  · simp [BitVec.toNat_add, Config.ptrBits]

end Sys2Proof.Machine
end

