-- ==== Sys2Proof/Laws/State.lean ====
section
/-! SUPPORT. The fields of State after each named update: one conjunct per field, every one true by definition. `simp` splits a
conjunction, so each field of each update is one rewrite rule. -/

namespace Sys2Proof.Machine

/-- The fields after `State.logEvent`. -/
@[simp] theorem State.logEvent_fields (e : LogEvent) (s : State) :
    (s.logEvent e).ptr = s.ptr ∧ (s.logEvent e).ownId = s.ownId ∧ (s.logEvent e).control = s.control ∧
    (s.logEvent e).timeoutPeriod = s.timeoutPeriod ∧ (s.logEvent e).totalSectors = s.totalSectors ∧
    (s.logEvent e).totalHeads = s.totalHeads ∧ (s.logEvent e).totalCylinders = s.totalCylinders ∧
    (s.logEvent e).logicalAddress = s.logicalAddress ∧ (s.logEvent e).sectorNumber = s.sectorNumber ∧
    (s.logEvent e).headNumber = s.headNumber ∧ (s.logEvent e).cylinderNumber = s.cylinderNumber ∧
    (s.logEvent e).targetLun = s.targetLun ∧ (s.logEvent e).commandPhase = s.commandPhase ∧
    (s.logEvent e).syncTransfer = s.syncTransfer ∧ (s.logEvent e).transferCount = s.transferCount ∧
    (s.logEvent e).destinationId = s.destinationId ∧ (s.logEvent e).sourceId = s.sourceId ∧
    (s.logEvent e).scsiStatus = s.scsiStatus ∧ (s.logEvent e).command = s.command ∧ (s.logEvent e).auxStatus = s.auxStatus ∧
    (s.logEvent e).fifo = s.fifo ∧ (s.logEvent e).state = s.state ∧ (s.logEvent e).phase = s.phase ∧
    (s.logEvent e).buf = s.buf ∧ (s.logEvent e).pos = s.pos ∧ (s.logEvent e).size = s.size ∧ (s.logEvent e).curDev = s.curDev ∧
    (s.logEvent e).curLun = s.curLun ∧ (s.logEvent e).curReq = s.curReq ∧ (s.logEvent e).irq = s.irq ∧
    (s.logEvent e).outstanding = s.outstanding ∧ (s.logEvent e).issued = s.issued ∧ (s.logEvent e).log = s.log ++ [e] ∧
    (s.logEvent e).busTrace = s.busTrace ∧ (s.logEvent e).script = s.script ∧ (s.logEvent e).result = s.result ∧
    (s.logEvent e).devAnswers = s.devAnswers ∧ (s.logEvent e).lunAnswers = s.lunAnswers ∧
    (s.logEvent e).reqAnswers = s.reqAnswers ∧ (s.logEvent e).readAnswers = s.readAnswers ∧
    (s.logEvent e).busCalls = s.busCalls :=
  ⟨rfl, rfl, rfl, rfl, rfl, rfl, rfl, rfl, rfl, rfl, rfl, rfl, rfl, rfl, rfl, rfl, rfl, rfl, rfl, rfl,
    rfl, rfl, rfl, rfl, rfl, rfl, rfl, rfl, rfl, rfl, rfl, rfl, rfl, rfl, rfl, rfl, rfl, rfl, rfl, rfl,
    rfl⟩

/-- The fields after `State.traceCall`. -/
@[simp] theorem State.traceCall_fields (c : BusCall) (s : State) :
    (s.traceCall c).ptr = s.ptr ∧ (s.traceCall c).ownId = s.ownId ∧ (s.traceCall c).control = s.control ∧
    (s.traceCall c).timeoutPeriod = s.timeoutPeriod ∧ (s.traceCall c).totalSectors = s.totalSectors ∧
    (s.traceCall c).totalHeads = s.totalHeads ∧ (s.traceCall c).totalCylinders = s.totalCylinders ∧
    (s.traceCall c).logicalAddress = s.logicalAddress ∧ (s.traceCall c).sectorNumber = s.sectorNumber ∧
    (s.traceCall c).headNumber = s.headNumber ∧ (s.traceCall c).cylinderNumber = s.cylinderNumber ∧
    (s.traceCall c).targetLun = s.targetLun ∧ (s.traceCall c).commandPhase = s.commandPhase ∧
    (s.traceCall c).syncTransfer = s.syncTransfer ∧ (s.traceCall c).transferCount = s.transferCount ∧
    (s.traceCall c).destinationId = s.destinationId ∧ (s.traceCall c).sourceId = s.sourceId ∧
    (s.traceCall c).scsiStatus = s.scsiStatus ∧ (s.traceCall c).command = s.command ∧ (s.traceCall c).auxStatus = s.auxStatus ∧
    (s.traceCall c).fifo = s.fifo ∧ (s.traceCall c).state = s.state ∧ (s.traceCall c).phase = s.phase ∧
    (s.traceCall c).buf = s.buf ∧ (s.traceCall c).pos = s.pos ∧ (s.traceCall c).size = s.size ∧
    (s.traceCall c).curDev = s.curDev ∧ (s.traceCall c).curLun = s.curLun ∧ (s.traceCall c).curReq = s.curReq ∧
    (s.traceCall c).irq = s.irq ∧ (s.traceCall c).outstanding = s.outstanding ∧ (s.traceCall c).issued = s.issued ∧
    (s.traceCall c).log = s.log ∧ (s.traceCall c).busTrace = s.busTrace ++ [c] ∧ (s.traceCall c).script = s.script ∧
    (s.traceCall c).result = s.result ∧ (s.traceCall c).devAnswers = s.devAnswers ∧ (s.traceCall c).lunAnswers = s.lunAnswers ∧
    (s.traceCall c).reqAnswers = s.reqAnswers ∧ (s.traceCall c).readAnswers = s.readAnswers ∧
    (s.traceCall c).busCalls = s.busCalls + 1 :=
  ⟨rfl, rfl, rfl, rfl, rfl, rfl, rfl, rfl, rfl, rfl, rfl, rfl, rfl, rfl, rfl, rfl, rfl, rfl, rfl, rfl,
    rfl, rfl, rfl, rfl, rfl, rfl, rfl, rfl, rfl, rfl, rfl, rfl, rfl, rfl, rfl, rfl, rfl, rfl, rfl, rfl,
    rfl⟩

/-- The fields after `State.irqRaise`. -/
@[simp] theorem State.irqRaise_fields (code : Byte) (s : State) :
    (s.irqRaise code).ptr = s.ptr ∧ (s.irqRaise code).ownId = s.ownId ∧ (s.irqRaise code).control = s.control ∧
    (s.irqRaise code).timeoutPeriod = s.timeoutPeriod ∧ (s.irqRaise code).totalSectors = s.totalSectors ∧
    (s.irqRaise code).totalHeads = s.totalHeads ∧ (s.irqRaise code).totalCylinders = s.totalCylinders ∧
    (s.irqRaise code).logicalAddress = s.logicalAddress ∧ (s.irqRaise code).sectorNumber = s.sectorNumber ∧
    (s.irqRaise code).headNumber = s.headNumber ∧ (s.irqRaise code).cylinderNumber = s.cylinderNumber ∧
    (s.irqRaise code).targetLun = s.targetLun ∧ (s.irqRaise code).commandPhase = s.commandPhase ∧
    (s.irqRaise code).syncTransfer = s.syncTransfer ∧ (s.irqRaise code).transferCount = s.transferCount ∧
    (s.irqRaise code).destinationId = s.destinationId ∧ (s.irqRaise code).sourceId = s.sourceId ∧
    (s.irqRaise code).scsiStatus = code ∧ (s.irqRaise code).command = s.command ∧
    (s.irqRaise code).auxStatus = setInt s.auxStatus ∧ (s.irqRaise code).fifo = s.fifo ∧ (s.irqRaise code).state = s.state ∧
    (s.irqRaise code).phase = s.phase ∧ (s.irqRaise code).buf = s.buf ∧ (s.irqRaise code).pos = s.pos ∧
    (s.irqRaise code).size = s.size ∧ (s.irqRaise code).curDev = s.curDev ∧ (s.irqRaise code).curLun = s.curLun ∧
    (s.irqRaise code).curReq = s.curReq ∧ (s.irqRaise code).irq = true ∧ (s.irqRaise code).outstanding = s.outstanding ∧
    (s.irqRaise code).issued = s.issued ∧ (s.irqRaise code).log = s.log ∧ (s.irqRaise code).busTrace = s.busTrace ∧
    (s.irqRaise code).script = s.script ∧ (s.irqRaise code).result = s.result ∧ (s.irqRaise code).devAnswers = s.devAnswers ∧
    (s.irqRaise code).lunAnswers = s.lunAnswers ∧ (s.irqRaise code).reqAnswers = s.reqAnswers ∧
    (s.irqRaise code).readAnswers = s.readAnswers ∧ (s.irqRaise code).busCalls = s.busCalls :=
  ⟨rfl, rfl, rfl, rfl, rfl, rfl, rfl, rfl, rfl, rfl, rfl, rfl, rfl, rfl, rfl, rfl, rfl, rfl, rfl, rfl,
    rfl, rfl, rfl, rfl, rfl, rfl, rfl, rfl, rfl, rfl, rfl, rfl, rfl, rfl, rfl, rfl, rfl, rfl, rfl, rfl,
    rfl⟩

/-- The fields after `State.irqAck`. -/
@[simp] theorem State.irqAck_fields (s : State) :
    (s.irqAck).ptr = s.ptr ∧ (s.irqAck).ownId = s.ownId ∧ (s.irqAck).control = s.control ∧
    (s.irqAck).timeoutPeriod = s.timeoutPeriod ∧ (s.irqAck).totalSectors = s.totalSectors ∧
    (s.irqAck).totalHeads = s.totalHeads ∧ (s.irqAck).totalCylinders = s.totalCylinders ∧
    (s.irqAck).logicalAddress = s.logicalAddress ∧ (s.irqAck).sectorNumber = s.sectorNumber ∧
    (s.irqAck).headNumber = s.headNumber ∧ (s.irqAck).cylinderNumber = s.cylinderNumber ∧ (s.irqAck).targetLun = s.targetLun ∧
    (s.irqAck).commandPhase = s.commandPhase ∧ (s.irqAck).syncTransfer = s.syncTransfer ∧
    (s.irqAck).transferCount = s.transferCount ∧ (s.irqAck).destinationId = s.destinationId ∧
    (s.irqAck).sourceId = s.sourceId ∧ (s.irqAck).scsiStatus = s.scsiStatus ∧ (s.irqAck).command = s.command ∧
    (s.irqAck).auxStatus = clearInt s.auxStatus ∧ (s.irqAck).fifo = s.fifo ∧ (s.irqAck).state = s.state ∧
    (s.irqAck).phase = s.phase ∧ (s.irqAck).buf = s.buf ∧ (s.irqAck).pos = s.pos ∧ (s.irqAck).size = s.size ∧
    (s.irqAck).curDev = s.curDev ∧ (s.irqAck).curLun = s.curLun ∧ (s.irqAck).curReq = s.curReq ∧ (s.irqAck).irq = false ∧
    (s.irqAck).outstanding = s.outstanding ∧ (s.irqAck).issued = s.issued ∧ (s.irqAck).log = s.log ∧
    (s.irqAck).busTrace = s.busTrace ∧ (s.irqAck).script = s.script ∧ (s.irqAck).result = s.result ∧
    (s.irqAck).devAnswers = s.devAnswers ∧ (s.irqAck).lunAnswers = s.lunAnswers ∧ (s.irqAck).reqAnswers = s.reqAnswers ∧
    (s.irqAck).readAnswers = s.readAnswers ∧ (s.irqAck).busCalls = s.busCalls :=
  ⟨rfl, rfl, rfl, rfl, rfl, rfl, rfl, rfl, rfl, rfl, rfl, rfl, rfl, rfl, rfl, rfl, rfl, rfl, rfl, rfl,
    rfl, rfl, rfl, rfl, rfl, rfl, rfl, rfl, rfl, rfl, rfl, rfl, rfl, rfl, rfl, rfl, rfl, rfl, rfl, rfl,
    rfl⟩

/-- The fields after `State.ptrAdvance`. -/
@[simp] theorem State.ptrAdvance_fields (p0 : Index) (s : State) :
    (s.ptrAdvance p0).ptr = nextPtr p0 ∧ (s.ptrAdvance p0).ownId = s.ownId ∧ (s.ptrAdvance p0).control = s.control ∧
    (s.ptrAdvance p0).timeoutPeriod = s.timeoutPeriod ∧ (s.ptrAdvance p0).totalSectors = s.totalSectors ∧
    (s.ptrAdvance p0).totalHeads = s.totalHeads ∧ (s.ptrAdvance p0).totalCylinders = s.totalCylinders ∧
    (s.ptrAdvance p0).logicalAddress = s.logicalAddress ∧ (s.ptrAdvance p0).sectorNumber = s.sectorNumber ∧
    (s.ptrAdvance p0).headNumber = s.headNumber ∧ (s.ptrAdvance p0).cylinderNumber = s.cylinderNumber ∧
    (s.ptrAdvance p0).targetLun = s.targetLun ∧ (s.ptrAdvance p0).commandPhase = s.commandPhase ∧
    (s.ptrAdvance p0).syncTransfer = s.syncTransfer ∧ (s.ptrAdvance p0).transferCount = s.transferCount ∧
    (s.ptrAdvance p0).destinationId = s.destinationId ∧ (s.ptrAdvance p0).sourceId = s.sourceId ∧
    (s.ptrAdvance p0).scsiStatus = s.scsiStatus ∧ (s.ptrAdvance p0).command = s.command ∧
    (s.ptrAdvance p0).auxStatus = s.auxStatus ∧ (s.ptrAdvance p0).fifo = s.fifo ∧ (s.ptrAdvance p0).state = s.state ∧
    (s.ptrAdvance p0).phase = s.phase ∧ (s.ptrAdvance p0).buf = s.buf ∧ (s.ptrAdvance p0).pos = s.pos ∧
    (s.ptrAdvance p0).size = s.size ∧ (s.ptrAdvance p0).curDev = s.curDev ∧ (s.ptrAdvance p0).curLun = s.curLun ∧
    (s.ptrAdvance p0).curReq = s.curReq ∧ (s.ptrAdvance p0).irq = s.irq ∧ (s.ptrAdvance p0).outstanding = s.outstanding ∧
    (s.ptrAdvance p0).issued = s.issued ∧ (s.ptrAdvance p0).log = s.log ∧ (s.ptrAdvance p0).busTrace = s.busTrace ∧
    (s.ptrAdvance p0).script = s.script ∧ (s.ptrAdvance p0).result = s.result ∧ (s.ptrAdvance p0).devAnswers = s.devAnswers ∧
    (s.ptrAdvance p0).lunAnswers = s.lunAnswers ∧ (s.ptrAdvance p0).reqAnswers = s.reqAnswers ∧
    (s.ptrAdvance p0).readAnswers = s.readAnswers ∧ (s.ptrAdvance p0).busCalls = s.busCalls :=
  ⟨rfl, rfl, rfl, rfl, rfl, rfl, rfl, rfl, rfl, rfl, rfl, rfl, rfl, rfl, rfl, rfl, rfl, rfl, rfl, rfl,
    rfl, rfl, rfl, rfl, rfl, rfl, rfl, rfl, rfl, rfl, rfl, rfl, rfl, rfl, rfl, rfl, rfl, rfl, rfl, rfl,
    rfl⟩

/-- The fields after `State.answer`. -/
@[simp] theorem State.answer_fields (b : Byte) (s : State) :
    (s.answer b).ptr = s.ptr ∧ (s.answer b).ownId = s.ownId ∧ (s.answer b).control = s.control ∧
    (s.answer b).timeoutPeriod = s.timeoutPeriod ∧ (s.answer b).totalSectors = s.totalSectors ∧
    (s.answer b).totalHeads = s.totalHeads ∧ (s.answer b).totalCylinders = s.totalCylinders ∧
    (s.answer b).logicalAddress = s.logicalAddress ∧ (s.answer b).sectorNumber = s.sectorNumber ∧
    (s.answer b).headNumber = s.headNumber ∧ (s.answer b).cylinderNumber = s.cylinderNumber ∧
    (s.answer b).targetLun = s.targetLun ∧ (s.answer b).commandPhase = s.commandPhase ∧
    (s.answer b).syncTransfer = s.syncTransfer ∧ (s.answer b).transferCount = s.transferCount ∧
    (s.answer b).destinationId = s.destinationId ∧ (s.answer b).sourceId = s.sourceId ∧
    (s.answer b).scsiStatus = s.scsiStatus ∧ (s.answer b).command = s.command ∧ (s.answer b).auxStatus = s.auxStatus ∧
    (s.answer b).fifo = s.fifo ∧ (s.answer b).state = s.state ∧ (s.answer b).phase = s.phase ∧ (s.answer b).buf = s.buf ∧
    (s.answer b).pos = s.pos ∧ (s.answer b).size = s.size ∧ (s.answer b).curDev = s.curDev ∧ (s.answer b).curLun = s.curLun ∧
    (s.answer b).curReq = s.curReq ∧ (s.answer b).irq = s.irq ∧ (s.answer b).outstanding = s.outstanding ∧
    (s.answer b).issued = s.issued ∧ (s.answer b).log = s.log ∧ (s.answer b).busTrace = s.busTrace ∧
    (s.answer b).script = s.script ∧ (s.answer b).result = some b ∧ (s.answer b).devAnswers = s.devAnswers ∧
    (s.answer b).lunAnswers = s.lunAnswers ∧ (s.answer b).reqAnswers = s.reqAnswers ∧
    (s.answer b).readAnswers = s.readAnswers ∧ (s.answer b).busCalls = s.busCalls :=
  ⟨rfl, rfl, rfl, rfl, rfl, rfl, rfl, rfl, rfl, rfl, rfl, rfl, rfl, rfl, rfl, rfl, rfl, rfl, rfl, rfl,
    rfl, rfl, rfl, rfl, rfl, rfl, rfl, rfl, rfl, rfl, rfl, rfl, rfl, rfl, rfl, rfl, rfl, rfl, rfl, rfl,
    rfl⟩

/-- The fields after `State.takeLine`. -/
@[simp] theorem State.takeLine_fields (rest : List Line) (s : State) :
    (s.takeLine rest).ptr = s.ptr ∧ (s.takeLine rest).ownId = s.ownId ∧ (s.takeLine rest).control = s.control ∧
    (s.takeLine rest).timeoutPeriod = s.timeoutPeriod ∧ (s.takeLine rest).totalSectors = s.totalSectors ∧
    (s.takeLine rest).totalHeads = s.totalHeads ∧ (s.takeLine rest).totalCylinders = s.totalCylinders ∧
    (s.takeLine rest).logicalAddress = s.logicalAddress ∧ (s.takeLine rest).sectorNumber = s.sectorNumber ∧
    (s.takeLine rest).headNumber = s.headNumber ∧ (s.takeLine rest).cylinderNumber = s.cylinderNumber ∧
    (s.takeLine rest).targetLun = s.targetLun ∧ (s.takeLine rest).commandPhase = s.commandPhase ∧
    (s.takeLine rest).syncTransfer = s.syncTransfer ∧ (s.takeLine rest).transferCount = s.transferCount ∧
    (s.takeLine rest).destinationId = s.destinationId ∧ (s.takeLine rest).sourceId = s.sourceId ∧
    (s.takeLine rest).scsiStatus = s.scsiStatus ∧ (s.takeLine rest).command = s.command ∧
    (s.takeLine rest).auxStatus = s.auxStatus ∧ (s.takeLine rest).fifo = s.fifo ∧ (s.takeLine rest).state = s.state ∧
    (s.takeLine rest).phase = s.phase ∧ (s.takeLine rest).buf = s.buf ∧ (s.takeLine rest).pos = s.pos ∧
    (s.takeLine rest).size = s.size ∧ (s.takeLine rest).curDev = s.curDev ∧ (s.takeLine rest).curLun = s.curLun ∧
    (s.takeLine rest).curReq = s.curReq ∧ (s.takeLine rest).irq = s.irq ∧ (s.takeLine rest).outstanding = s.outstanding ∧
    (s.takeLine rest).issued = s.issued ∧ (s.takeLine rest).log = s.log ∧ (s.takeLine rest).busTrace = s.busTrace ∧
    (s.takeLine rest).script = rest ∧ (s.takeLine rest).result = none ∧ (s.takeLine rest).devAnswers = s.devAnswers ∧
    (s.takeLine rest).lunAnswers = s.lunAnswers ∧ (s.takeLine rest).reqAnswers = s.reqAnswers ∧
    (s.takeLine rest).readAnswers = s.readAnswers ∧ (s.takeLine rest).busCalls = s.busCalls :=
  ⟨rfl, rfl, rfl, rfl, rfl, rfl, rfl, rfl, rfl, rfl, rfl, rfl, rfl, rfl, rfl, rfl, rfl, rfl, rfl, rfl,
    rfl, rfl, rfl, rfl, rfl, rfl, rfl, rfl, rfl, rfl, rfl, rfl, rfl, rfl, rfl, rfl, rfl, rfl, rfl, rfl,
    rfl⟩

/-- The fields after `State.findDevice`. -/
@[simp] theorem State.findDevice_fields (id : Byte) (s : State) :
    (s.findDevice id).ptr = s.ptr ∧ (s.findDevice id).ownId = s.ownId ∧ (s.findDevice id).control = s.control ∧
    (s.findDevice id).timeoutPeriod = s.timeoutPeriod ∧ (s.findDevice id).totalSectors = s.totalSectors ∧
    (s.findDevice id).totalHeads = s.totalHeads ∧ (s.findDevice id).totalCylinders = s.totalCylinders ∧
    (s.findDevice id).logicalAddress = s.logicalAddress ∧ (s.findDevice id).sectorNumber = s.sectorNumber ∧
    (s.findDevice id).headNumber = s.headNumber ∧ (s.findDevice id).cylinderNumber = s.cylinderNumber ∧
    (s.findDevice id).targetLun = s.targetLun ∧ (s.findDevice id).commandPhase = s.commandPhase ∧
    (s.findDevice id).syncTransfer = s.syncTransfer ∧ (s.findDevice id).transferCount = s.transferCount ∧
    (s.findDevice id).destinationId = s.destinationId ∧ (s.findDevice id).sourceId = s.sourceId ∧
    (s.findDevice id).scsiStatus = s.scsiStatus ∧ (s.findDevice id).command = s.command ∧
    (s.findDevice id).auxStatus = s.auxStatus ∧ (s.findDevice id).fifo = s.fifo ∧ (s.findDevice id).state = s.state ∧
    (s.findDevice id).phase = s.phase ∧ (s.findDevice id).buf = s.buf ∧ (s.findDevice id).pos = s.pos ∧
    (s.findDevice id).size = s.size ∧ (s.findDevice id).curDev = s.curDev ∧ (s.findDevice id).curLun = s.curLun ∧
    (s.findDevice id).curReq = s.curReq ∧ (s.findDevice id).irq = s.irq ∧ (s.findDevice id).outstanding = s.outstanding ∧
    (s.findDevice id).issued = s.issued ∧ (s.findDevice id).log = s.log ∧
    (s.findDevice id).busTrace = s.busTrace ++ [.findDevice id s.nextDevice] ∧ (s.findDevice id).script = s.script ∧
    (s.findDevice id).result = s.result ∧ (s.findDevice id).devAnswers = s.devAnswers.tail ∧
    (s.findDevice id).lunAnswers = s.lunAnswers ∧ (s.findDevice id).reqAnswers = s.reqAnswers ∧
    (s.findDevice id).readAnswers = s.readAnswers ∧ (s.findDevice id).busCalls = s.busCalls + 1 :=
  ⟨rfl, rfl, rfl, rfl, rfl, rfl, rfl, rfl, rfl, rfl, rfl, rfl, rfl, rfl, rfl, rfl, rfl, rfl, rfl, rfl,
    rfl, rfl, rfl, rfl, rfl, rfl, rfl, rfl, rfl, rfl, rfl, rfl, rfl, rfl, rfl, rfl, rfl, rfl, rfl, rfl,
    rfl⟩

/-- The fields after `State.findLun`. -/
@[simp] theorem State.findLun_fields (d : DevHandle) (u : Byte) (s : State) :
    (s.findLun d u).ptr = s.ptr ∧ (s.findLun d u).ownId = s.ownId ∧ (s.findLun d u).control = s.control ∧
    (s.findLun d u).timeoutPeriod = s.timeoutPeriod ∧ (s.findLun d u).totalSectors = s.totalSectors ∧
    (s.findLun d u).totalHeads = s.totalHeads ∧ (s.findLun d u).totalCylinders = s.totalCylinders ∧
    (s.findLun d u).logicalAddress = s.logicalAddress ∧ (s.findLun d u).sectorNumber = s.sectorNumber ∧
    (s.findLun d u).headNumber = s.headNumber ∧ (s.findLun d u).cylinderNumber = s.cylinderNumber ∧
    (s.findLun d u).targetLun = s.targetLun ∧ (s.findLun d u).commandPhase = s.commandPhase ∧
    (s.findLun d u).syncTransfer = s.syncTransfer ∧ (s.findLun d u).transferCount = s.transferCount ∧
    (s.findLun d u).destinationId = s.destinationId ∧ (s.findLun d u).sourceId = s.sourceId ∧
    (s.findLun d u).scsiStatus = s.scsiStatus ∧ (s.findLun d u).command = s.command ∧ (s.findLun d u).auxStatus = s.auxStatus ∧
    (s.findLun d u).fifo = s.fifo ∧ (s.findLun d u).state = s.state ∧ (s.findLun d u).phase = s.phase ∧
    (s.findLun d u).buf = s.buf ∧ (s.findLun d u).pos = s.pos ∧ (s.findLun d u).size = s.size ∧
    (s.findLun d u).curDev = s.curDev ∧ (s.findLun d u).curLun = s.curLun ∧ (s.findLun d u).curReq = s.curReq ∧
    (s.findLun d u).irq = s.irq ∧ (s.findLun d u).outstanding = s.outstanding ∧ (s.findLun d u).issued = s.issued ∧
    (s.findLun d u).log = s.log ∧ (s.findLun d u).busTrace = s.busTrace ++ [.findLun d u s.nextLun] ∧
    (s.findLun d u).script = s.script ∧ (s.findLun d u).result = s.result ∧ (s.findLun d u).devAnswers = s.devAnswers ∧
    (s.findLun d u).lunAnswers = s.lunAnswers.tail ∧ (s.findLun d u).reqAnswers = s.reqAnswers ∧
    (s.findLun d u).readAnswers = s.readAnswers ∧ (s.findLun d u).busCalls = s.busCalls + 1 :=
  ⟨rfl, rfl, rfl, rfl, rfl, rfl, rfl, rfl, rfl, rfl, rfl, rfl, rfl, rfl, rfl, rfl, rfl, rfl, rfl, rfl,
    rfl, rfl, rfl, rfl, rfl, rfl, rfl, rfl, rfl, rfl, rfl, rfl, rfl, rfl, rfl, rfl, rfl, rfl, rfl, rfl,
    rfl⟩

/-- The fields after `State.enqueueRequest`. -/
@[simp] theorem State.enqueueRequest_fields (bs : List Byte) (n : Nat) (s : State) :
    (s.enqueueRequest bs n).ptr = s.ptr ∧ (s.enqueueRequest bs n).ownId = s.ownId ∧
    (s.enqueueRequest bs n).control = s.control ∧ (s.enqueueRequest bs n).timeoutPeriod = s.timeoutPeriod ∧
    (s.enqueueRequest bs n).totalSectors = s.totalSectors ∧ (s.enqueueRequest bs n).totalHeads = s.totalHeads ∧
    (s.enqueueRequest bs n).totalCylinders = s.totalCylinders ∧ (s.enqueueRequest bs n).logicalAddress = s.logicalAddress ∧
    (s.enqueueRequest bs n).sectorNumber = s.sectorNumber ∧ (s.enqueueRequest bs n).headNumber = s.headNumber ∧
    (s.enqueueRequest bs n).cylinderNumber = s.cylinderNumber ∧ (s.enqueueRequest bs n).targetLun = s.targetLun ∧
    (s.enqueueRequest bs n).commandPhase = s.commandPhase ∧ (s.enqueueRequest bs n).syncTransfer = s.syncTransfer ∧
    (s.enqueueRequest bs n).transferCount = s.transferCount ∧ (s.enqueueRequest bs n).destinationId = s.destinationId ∧
    (s.enqueueRequest bs n).sourceId = s.sourceId ∧ (s.enqueueRequest bs n).scsiStatus = s.scsiStatus ∧
    (s.enqueueRequest bs n).command = s.command ∧ (s.enqueueRequest bs n).auxStatus = s.auxStatus ∧
    (s.enqueueRequest bs n).fifo = s.fifo ∧ (s.enqueueRequest bs n).state = s.state ∧ (s.enqueueRequest bs n).phase = s.phase ∧
    (s.enqueueRequest bs n).buf = s.buf ∧ (s.enqueueRequest bs n).pos = s.pos ∧ (s.enqueueRequest bs n).size = s.size ∧
    (s.enqueueRequest bs n).curDev = s.curDev ∧ (s.enqueueRequest bs n).curLun = s.curLun ∧
    (s.enqueueRequest bs n).curReq = s.curReq ∧ (s.enqueueRequest bs n).irq = s.irq ∧
    (s.enqueueRequest bs n).outstanding = addOutstanding s.nextRequest.2 s.outstanding ∧
    (s.enqueueRequest bs n).issued = s.nextRequest.1 :: s.issued ∧ (s.enqueueRequest bs n).log = s.log ∧
    (s.enqueueRequest bs n).busTrace = s.busTrace ++ [.enqueueRequest s.curLun bs n s.nextRequest.1 s.nextRequest.2] ∧
    (s.enqueueRequest bs n).script = s.script ∧ (s.enqueueRequest bs n).result = s.result ∧
    (s.enqueueRequest bs n).devAnswers = s.devAnswers ∧ (s.enqueueRequest bs n).lunAnswers = s.lunAnswers ∧
    (s.enqueueRequest bs n).reqAnswers = s.reqAnswers.tail ∧ (s.enqueueRequest bs n).readAnswers = s.readAnswers ∧
    (s.enqueueRequest bs n).busCalls = s.busCalls + 1 :=
  ⟨rfl, rfl, rfl, rfl, rfl, rfl, rfl, rfl, rfl, rfl, rfl, rfl, rfl, rfl, rfl, rfl, rfl, rfl, rfl, rfl,
    rfl, rfl, rfl, rfl, rfl, rfl, rfl, rfl, rfl, rfl, rfl, rfl, rfl, rfl, rfl, rfl, rfl, rfl, rfl, rfl,
    rfl⟩

/-- The fields after `State.enqueueRead`. -/
@[simp] theorem State.enqueueRead_fields (u : LunHandle) (n : Nat) (s : State) :
    (s.enqueueRead u n).ptr = s.ptr ∧ (s.enqueueRead u n).ownId = s.ownId ∧ (s.enqueueRead u n).control = s.control ∧
    (s.enqueueRead u n).timeoutPeriod = s.timeoutPeriod ∧ (s.enqueueRead u n).totalSectors = s.totalSectors ∧
    (s.enqueueRead u n).totalHeads = s.totalHeads ∧ (s.enqueueRead u n).totalCylinders = s.totalCylinders ∧
    (s.enqueueRead u n).logicalAddress = s.logicalAddress ∧ (s.enqueueRead u n).sectorNumber = s.sectorNumber ∧
    (s.enqueueRead u n).headNumber = s.headNumber ∧ (s.enqueueRead u n).cylinderNumber = s.cylinderNumber ∧
    (s.enqueueRead u n).targetLun = s.targetLun ∧ (s.enqueueRead u n).commandPhase = s.commandPhase ∧
    (s.enqueueRead u n).syncTransfer = s.syncTransfer ∧ (s.enqueueRead u n).transferCount = s.transferCount ∧
    (s.enqueueRead u n).destinationId = s.destinationId ∧ (s.enqueueRead u n).sourceId = s.sourceId ∧
    (s.enqueueRead u n).scsiStatus = s.scsiStatus ∧ (s.enqueueRead u n).command = s.command ∧
    (s.enqueueRead u n).auxStatus = s.auxStatus ∧ (s.enqueueRead u n).fifo = s.fifo ∧ (s.enqueueRead u n).state = s.state ∧
    (s.enqueueRead u n).phase = s.phase ∧ (s.enqueueRead u n).buf = s.buf ∧ (s.enqueueRead u n).pos = s.pos ∧
    (s.enqueueRead u n).size = s.size ∧ (s.enqueueRead u n).curDev = s.curDev ∧ (s.enqueueRead u n).curLun = s.curLun ∧
    (s.enqueueRead u n).curReq = s.curReq ∧ (s.enqueueRead u n).irq = s.irq ∧
    (s.enqueueRead u n).outstanding = addOutstanding s.nextRead.2.1 s.outstanding ∧
    (s.enqueueRead u n).issued = s.nextRead.1 :: s.issued ∧ (s.enqueueRead u n).log = s.log ∧
    (s.enqueueRead u n).busTrace = s.busTrace ++ [.enqueueRead u n s.nextRead.1 s.nextRead.2.1 s.nextRead.2.2] ∧
    (s.enqueueRead u n).script = s.script ∧ (s.enqueueRead u n).result = s.result ∧
    (s.enqueueRead u n).devAnswers = s.devAnswers ∧ (s.enqueueRead u n).lunAnswers = s.lunAnswers ∧
    (s.enqueueRead u n).reqAnswers = s.reqAnswers ∧ (s.enqueueRead u n).readAnswers = s.readAnswers.tail ∧
    (s.enqueueRead u n).busCalls = s.busCalls + 1 :=
  ⟨rfl, rfl, rfl, rfl, rfl, rfl, rfl, rfl, rfl, rfl, rfl, rfl, rfl, rfl, rfl, rfl, rfl, rfl, rfl, rfl,
    rfl, rfl, rfl, rfl, rfl, rfl, rfl, rfl, rfl, rfl, rfl, rfl, rfl, rfl, rfl, rfl, rfl, rfl, rfl, rfl,
    rfl⟩

/-- The fields after `State.busReset`. -/
@[simp] theorem State.busReset_fields (s : State) :
    (s.busReset).ptr = s.ptr ∧ (s.busReset).ownId = s.ownId ∧ (s.busReset).control = s.control ∧
    (s.busReset).timeoutPeriod = s.timeoutPeriod ∧ (s.busReset).totalSectors = s.totalSectors ∧
    (s.busReset).totalHeads = s.totalHeads ∧ (s.busReset).totalCylinders = s.totalCylinders ∧
    (s.busReset).logicalAddress = s.logicalAddress ∧ (s.busReset).sectorNumber = s.sectorNumber ∧
    (s.busReset).headNumber = s.headNumber ∧ (s.busReset).cylinderNumber = s.cylinderNumber ∧
    (s.busReset).targetLun = s.targetLun ∧ (s.busReset).commandPhase = s.commandPhase ∧
    (s.busReset).syncTransfer = s.syncTransfer ∧ (s.busReset).transferCount = s.transferCount ∧
    (s.busReset).destinationId = s.destinationId ∧ (s.busReset).sourceId = s.sourceId ∧
    (s.busReset).scsiStatus = s.scsiStatus ∧ (s.busReset).command = s.command ∧ (s.busReset).auxStatus = s.auxStatus ∧
    (s.busReset).fifo = s.fifo ∧ (s.busReset).state = s.state ∧ (s.busReset).phase = s.phase ∧ (s.busReset).buf = s.buf ∧
    (s.busReset).pos = s.pos ∧ (s.busReset).size = s.size ∧ (s.busReset).curDev = s.curDev ∧ (s.busReset).curLun = s.curLun ∧
    (s.busReset).curReq = s.curReq ∧ (s.busReset).irq = s.irq ∧ (s.busReset).outstanding = s.outstanding ∧
    (s.busReset).issued = s.issued ∧ (s.busReset).log = s.log ∧ (s.busReset).busTrace = s.busTrace ++ [.reset] ∧
    (s.busReset).script = s.script ∧ (s.busReset).result = s.result ∧ (s.busReset).devAnswers = s.devAnswers ∧
    (s.busReset).lunAnswers = s.lunAnswers ∧ (s.busReset).reqAnswers = s.reqAnswers ∧
    (s.busReset).readAnswers = s.readAnswers ∧ (s.busReset).busCalls = s.busCalls + 1 :=
  ⟨rfl, rfl, rfl, rfl, rfl, rfl, rfl, rfl, rfl, rfl, rfl, rfl, rfl, rfl, rfl, rfl, rfl, rfl, rfl, rfl,
    rfl, rfl, rfl, rfl, rfl, rfl, rfl, rfl, rfl, rfl, rfl, rfl, rfl, rfl, rfl, rfl, rfl, rfl, rfl, rfl,
    rfl⟩

/-- The fields after `State.xferPopulate`. -/
@[simp] theorem State.xferPopulate_fields (data : List Byte) (s : State) :
    (s.xferPopulate data).ptr = s.ptr ∧ (s.xferPopulate data).ownId = s.ownId ∧ (s.xferPopulate data).control = s.control ∧
    (s.xferPopulate data).timeoutPeriod = s.timeoutPeriod ∧ (s.xferPopulate data).totalSectors = s.totalSectors ∧
    (s.xferPopulate data).totalHeads = s.totalHeads ∧ (s.xferPopulate data).totalCylinders = s.totalCylinders ∧
    (s.xferPopulate data).logicalAddress = s.logicalAddress ∧ (s.xferPopulate data).sectorNumber = s.sectorNumber ∧
    (s.xferPopulate data).headNumber = s.headNumber ∧ (s.xferPopulate data).cylinderNumber = s.cylinderNumber ∧
    (s.xferPopulate data).targetLun = s.targetLun ∧ (s.xferPopulate data).commandPhase = s.commandPhase ∧
    (s.xferPopulate data).syncTransfer = s.syncTransfer ∧ (s.xferPopulate data).transferCount = s.transferCount ∧
    (s.xferPopulate data).destinationId = s.destinationId ∧ (s.xferPopulate data).sourceId = s.sourceId ∧
    (s.xferPopulate data).scsiStatus = s.scsiStatus ∧ (s.xferPopulate data).command = s.command ∧
    (s.xferPopulate data).auxStatus = s.auxStatus ∧ (s.xferPopulate data).fifo = s.fifo ∧
    (s.xferPopulate data).state = s.state ∧ (s.xferPopulate data).phase = s.phase ∧ (s.xferPopulate data).buf = data ∧
    (s.xferPopulate data).pos = 0 ∧ (s.xferPopulate data).size = data.length ∧ (s.xferPopulate data).curDev = s.curDev ∧
    (s.xferPopulate data).curLun = s.curLun ∧ (s.xferPopulate data).curReq = s.curReq ∧ (s.xferPopulate data).irq = s.irq ∧
    (s.xferPopulate data).outstanding = s.outstanding ∧ (s.xferPopulate data).issued = s.issued ∧
    (s.xferPopulate data).log = s.log ∧ (s.xferPopulate data).busTrace = s.busTrace ∧ (s.xferPopulate data).script = s.script ∧
    (s.xferPopulate data).result = s.result ∧ (s.xferPopulate data).devAnswers = s.devAnswers ∧
    (s.xferPopulate data).lunAnswers = s.lunAnswers ∧ (s.xferPopulate data).reqAnswers = s.reqAnswers ∧
    (s.xferPopulate data).readAnswers = s.readAnswers ∧ (s.xferPopulate data).busCalls = s.busCalls :=
  ⟨rfl, rfl, rfl, rfl, rfl, rfl, rfl, rfl, rfl, rfl, rfl, rfl, rfl, rfl, rfl, rfl, rfl, rfl, rfl, rfl,
    rfl, rfl, rfl, rfl, rfl, rfl, rfl, rfl, rfl, rfl, rfl, rfl, rfl, rfl, rfl, rfl, rfl, rfl, rfl, rfl,
    rfl⟩

/-- The fields after `State.deviceReset`. -/
@[simp] theorem State.deviceReset_fields (s : State) :
    (s.deviceReset).ptr = s.ptr ∧ (s.deviceReset).ownId = s.ownId ∧ (s.deviceReset).control = s.control ∧
    (s.deviceReset).timeoutPeriod = s.timeoutPeriod ∧ (s.deviceReset).totalSectors = s.totalSectors ∧
    (s.deviceReset).totalHeads = s.totalHeads ∧ (s.deviceReset).totalCylinders = s.totalCylinders ∧
    (s.deviceReset).logicalAddress = s.logicalAddress ∧ (s.deviceReset).sectorNumber = s.sectorNumber ∧
    (s.deviceReset).headNumber = s.headNumber ∧ (s.deviceReset).cylinderNumber = s.cylinderNumber ∧
    (s.deviceReset).targetLun = s.targetLun ∧ (s.deviceReset).commandPhase = s.commandPhase ∧
    (s.deviceReset).syncTransfer = s.syncTransfer ∧ (s.deviceReset).transferCount = s.transferCount ∧
    (s.deviceReset).destinationId = s.destinationId ∧ (s.deviceReset).sourceId = s.sourceId ∧
    (s.deviceReset).scsiStatus = s.scsiStatus ∧ (s.deviceReset).command = s.command ∧ (s.deviceReset).auxStatus = s.auxStatus ∧
    (s.deviceReset).fifo = s.fifo ∧ (s.deviceReset).state = .idle ∧ (s.deviceReset).phase = .dataOut ∧
    (s.deviceReset).buf = s.buf ∧ (s.deviceReset).pos = s.pos ∧ (s.deviceReset).size = s.size ∧ (s.deviceReset).curDev = none ∧
    (s.deviceReset).curLun = none ∧ (s.deviceReset).curReq = none ∧ (s.deviceReset).irq = s.irq ∧
    (s.deviceReset).outstanding = s.outstanding ∧ (s.deviceReset).issued = s.issued ∧ (s.deviceReset).log = s.log ∧
    (s.deviceReset).busTrace = s.busTrace ∧ (s.deviceReset).script = s.script ∧ (s.deviceReset).result = s.result ∧
    (s.deviceReset).devAnswers = s.devAnswers ∧ (s.deviceReset).lunAnswers = s.lunAnswers ∧
    (s.deviceReset).reqAnswers = s.reqAnswers ∧ (s.deviceReset).readAnswers = s.readAnswers ∧
    (s.deviceReset).busCalls = s.busCalls :=
  ⟨rfl, rfl, rfl, rfl, rfl, rfl, rfl, rfl, rfl, rfl, rfl, rfl, rfl, rfl, rfl, rfl, rfl, rfl, rfl, rfl,
    rfl, rfl, rfl, rfl, rfl, rfl, rfl, rfl, rfl, rfl, rfl, rfl, rfl, rfl, rfl, rfl, rfl, rfl, rfl, rfl,
    rfl⟩

/-- The fields after `State.cmdReset`. -/
@[simp] theorem State.cmdReset_fields (s : State) :
    (s.cmdReset).ptr = s.ptr ∧ (s.cmdReset).ownId = s.ownId ∧ (s.cmdReset).control = s.control ∧
    (s.cmdReset).timeoutPeriod = s.timeoutPeriod ∧ (s.cmdReset).totalSectors = s.totalSectors ∧
    (s.cmdReset).totalHeads = s.totalHeads ∧ (s.cmdReset).totalCylinders = s.totalCylinders ∧
    (s.cmdReset).logicalAddress = s.logicalAddress ∧ (s.cmdReset).sectorNumber = s.sectorNumber ∧
    (s.cmdReset).headNumber = s.headNumber ∧ (s.cmdReset).cylinderNumber = s.cylinderNumber ∧
    (s.cmdReset).targetLun = s.targetLun ∧ (s.cmdReset).commandPhase = s.commandPhase ∧
    (s.cmdReset).syncTransfer = s.syncTransfer ∧ (s.cmdReset).transferCount = s.transferCount ∧
    (s.cmdReset).destinationId = s.destinationId ∧ (s.cmdReset).sourceId = s.sourceId ∧
    (s.cmdReset).scsiStatus = s.scsiStatus ∧ (s.cmdReset).command = s.command ∧ (s.cmdReset).auxStatus = s.auxStatus ∧
    (s.cmdReset).fifo = s.fifo ∧ (s.cmdReset).state = s.state ∧ (s.cmdReset).phase = s.phase ∧ (s.cmdReset).buf = s.buf ∧
    (s.cmdReset).pos = s.pos ∧ (s.cmdReset).size = s.size ∧ (s.cmdReset).curDev = none ∧ (s.cmdReset).curLun = none ∧
    (s.cmdReset).curReq = s.curReq ∧ (s.cmdReset).irq = s.irq ∧ (s.cmdReset).outstanding = s.outstanding ∧
    (s.cmdReset).issued = s.issued ∧ (s.cmdReset).log = s.log ∧ (s.cmdReset).busTrace = s.busTrace ++ [.reset] ∧
    (s.cmdReset).script = s.script ∧ (s.cmdReset).result = s.result ∧ (s.cmdReset).devAnswers = s.devAnswers ∧
    (s.cmdReset).lunAnswers = s.lunAnswers ∧ (s.cmdReset).reqAnswers = s.reqAnswers ∧
    (s.cmdReset).readAnswers = s.readAnswers ∧ (s.cmdReset).busCalls = s.busCalls + 1 :=
  ⟨rfl, rfl, rfl, rfl, rfl, rfl, rfl, rfl, rfl, rfl, rfl, rfl, rfl, rfl, rfl, rfl, rfl, rfl, rfl, rfl,
    rfl, rfl, rfl, rfl, rfl, rfl, rfl, rfl, rfl, rfl, rfl, rfl, rfl, rfl, rfl, rfl, rfl, rfl, rfl, rfl,
    rfl⟩

end Sys2Proof.Machine
end

