-- ==== Sys2Proof/Laws/Ops.lean ====
section
/-! SUPPORT. One lemma per shared operation that says what it can do, and the laws of the outstanding multiset. -/

namespace Sys2Proof.Machine

theorem mapNext_eq_next {f : State → State} {o : Host.Outcome State Fault Refusal} {t : State} (h : mapNext f o = .next t) :
    ∃ u, o = .next u ∧ t = f u := by
  cases o <;> simp [mapNext] at h
  exact ⟨_, rfl, h.symm⟩

theorem mapNext_eq_fault {f : State → State} {o : Host.Outcome State Fault Refusal} {r : Fault} (h : mapNext f o = .fault r) :
    o = .fault r := by
  cases o <;> simp [mapNext] at h
  rfl

theorem mapNext_eq_refused {f : State → State} {o : Host.Outcome State Fault Refusal} {r : Refusal}
    (h : mapNext f o = .refused r) : o = .refused r := by
  cases o <;> simp [mapNext] at h
  exact congrArg _ h

@[simp] theorem mapNext_next (f : State → State) (s : State) : mapNext f (.next s) = .next (f s) := rfl

/-! ## The byte queue -/

/-- A push appends while there is room, else it only logs. -/
theorem fifoPush_cases (b : Byte) (s : State) :
    (s.fifo.length < 12 ∧ s.fifoPush b = { s with fifo := s.fifo ++ [b] }) ∨
    (12 ≤ s.fifo.length ∧ s.fifoPush b = s.logEvent (.fifoOverflow b)) := by
  unfold State.fifoPush
  split
  · exact .inl ⟨‹_›, rfl⟩
  · exact .inr ⟨Nat.le_of_not_lt ‹_›, rfl⟩

/-- A pop returns and removes the head, or returns 0 and logs. -/
theorem fifoPop_cases (s : State) :
    (∃ b rest, s.fifo = b :: rest ∧ s.fifoPop = { s with fifo := rest, result := some b }) ∨
    (s.fifo = [] ∧ s.fifoPop = { s with result := some 0x00#8, log := s.log ++ [.fifoUnderflow] }) := by
  unfold State.fifoPop
  split
  · exact .inl ⟨_, _, ‹_›, rfl⟩
  · exact .inr ⟨‹_›, rfl⟩

/-! ## The outstanding multiset -/

theorem addOutstanding_perm (len : Int) (ls : List Int) : (addOutstanding len ls).Perm (len :: ls) := by
  induction ls with
  | nil => exact .refl _
  | cons l ls ih =>
    unfold addOutstanding
    split
    · exact .refl _
    · exact (ih.cons l).trans (.swap len l ls)

theorem addOutstanding_ne_nil (len : Int) (ls : List Int) : addOutstanding len ls ≠ [] := fun h => by
  simpa [h] using (addOutstanding_perm len ls).length_eq

/-- Adding a length keeps the list rising. -/
theorem addOutstanding_rising (len : Int) {ls : List Int} (h : ls.Pairwise (· ≤ ·)) :
    (addOutstanding len ls).Pairwise (· ≤ ·) := by
  induction ls with
  | nil => simp [addOutstanding]
  | cons l ls ih =>
    obtain ⟨hl, ht⟩ := List.pairwise_cons.1 h
    unfold addOutstanding
    split
    · rename_i hle
      exact List.pairwise_cons.2 ⟨fun a ha => by
        rcases List.mem_cons.1 ha with rfl | ha
        · exact hle
        · exact le_trans hle (hl a ha), h⟩
    · rename_i hle
      refine List.pairwise_cons.2 ⟨fun a ha => ?_, ih ht⟩
      rcases List.mem_cons.1 ((addOutstanding_perm len ls).mem_iff.1 ha) with rfl | ha
      · omega
      · exact hl a ha

/-- Removing a length keeps the list rising. -/
theorem erase_rising (len : Int) {ls : List Int} (h : ls.Pairwise (· ≤ ·)) : (ls.erase len).Pairwise (· ≤ ·) :=
  h.sublist List.erase_sublist

/-! ## The transfer buffer -/

/-- A fresh buffer of `n` bytes; the log gains at most the supersede event. -/
theorem xferBegin_eq (n : Nat) (s : State) :
    s.xferBegin n = { s with
      buf := List.replicate n 0x00#8, pos := 0, size := n,
      log := if s.state.pending then s.log ++ [.transferSuperseded] else s.log } := by
  unfold State.xferBegin
  cases s.state.pending <;> rfl

/-- What an intercepted write can do: append, append and submit, or fault. -/
theorem xferAppend_cases (v : Byte) (s : State) :
    (s.pos + 1 < s.size ∧ xferAppend v s = .next { s with buf := s.buf.set s.pos v, pos := s.pos + 1 }) ∨
    (s.pos + 1 = s.size ∧
      xferAppend v s = .next ({ s with buf := s.buf.set s.pos v, pos := s.pos + 1 }).xferSubmit) ∨
    (s.size ≤ s.pos ∧ xferAppend v s = .fault .xferOutOfRange) := by
  unfold xferAppend
  by_cases h : s.pos < s.size
  · by_cases h1 : s.pos + 1 = s.size
    · exact .inr (.inl ⟨h1, by simp [h, h1]⟩)
    · exact .inl ⟨by omega, by simp [h, h1]⟩
  · exact .inr (.inr ⟨Nat.le_of_not_lt h, by simp [h]⟩)

/-! ## Request handles -/

theorem le_foldr_max {n : Nat} {ns : List Nat} (h : n ∈ ns) : n ≤ ns.foldr max 0 := by
  induction ns with
  | nil => cases h
  | cons m ms ih =>
    rcases List.mem_cons.1 h with rfl | h
    · exact Nat.le_max_left _ _
    · exact Nat.le_trans (ih h) (Nat.le_max_right _ _)

/-- A fresh handle is none of those returned before. -/
theorem freshHandle_not_mem (issued : List ReqHandle) (h : ReqHandle) : freshHandle issued h ∉ issued := by
  unfold freshHandle
  split
  · intro hm
    have := le_foldr_max (List.mem_map_of_mem (f := ReqHandle.id) hm)
    simp only at this
    omega
  · assumption

/-- A handle that was not returned before is kept: the bus may return any fresh handle. -/
theorem freshHandle_of_not_mem {issued : List ReqHandle} {h : ReqHandle} (hm : h ∉ issued) : freshHandle issued h = h :=
  if_neg hm

theorem nextRequest_fresh (s : State) : s.nextRequest.1 ∉ s.issued := freshHandle_not_mem _ _

theorem nextRead_fresh (s : State) : s.nextRead.1 ∉ s.issued := freshHandle_not_mem _ _

/-- The submit: one request of the first `size` bytes on the bound unit, then the wait for its completion. -/
theorem xferSubmit_eq (s : State) :
    s.xferSubmit = { s with
      curReq := some s.nextRequest.1, state := .polledExecuting, reqAnswers := s.reqAnswers.tail,
      outstanding := addOutstanding s.nextRequest.2 s.outstanding, issued := s.nextRequest.1 :: s.issued, busCalls := s.busCalls + 1,
      busTrace := s.busTrace ++
        [.enqueueRequest s.curLun (s.buf.take s.size) s.size s.nextRequest.1 s.nextRequest.2] } := rfl

/-- What an intercepted read can do: return the byte at the cursor, or fault. -/
theorem xferFetch_cases (s : State) :
    (∃ b, s.pos < s.size ∧ s.buf[s.pos]? = some b ∧ xferFetch s = .next { s with pos := s.pos + 1, result := some b }) ∨
    ((s.size ≤ s.pos ∨ s.buf.length ≤ s.pos) ∧ xferFetch s = .fault .xferOutOfRange) := by
  unfold xferFetch
  by_cases h : s.pos < s.size
  · cases hb : s.buf[s.pos]? with
    | some b => exact .inl ⟨b, h, rfl, by simp [h, State.answer]⟩
    | none => exact .inr ⟨.inr (List.getElem?_eq_none_iff.1 hb), by simp [h]⟩
  · exact .inr ⟨.inl (Nat.le_of_not_lt h), by simp [h]⟩

/-! ## Events and commands -/

/-- What the block does on a completion: end the wait with the interrupt of the length's sign, or log a stray one. -/
theorem completion_cases (len : Int) (s : State) :
    (s.state = .polledExecuting ∧ 0 < len ∧ s.completion len = { s with
      state := .completeDataIn, phase := .dataIn, scsiStatus := Config.stXferDoneDataIn, auxStatus := setInt s.auxStatus,
      irq := true }) ∨
    (s.state = .polledExecuting ∧ len ≤ 0 ∧ s.completion len = { s with
      state := .completeDataOut, phase := .dataOut, scsiStatus := Config.stXferDoneDataOut, auxStatus := setInt s.auxStatus,
      irq := true }) ∨
    (s.state ≠ .polledExecuting ∧ s.completion len = { s with log := s.log ++ [.strayCompletion len] }) := by
  unfold State.completion directionOf
  by_cases h : s.state = .polledExecuting
  · by_cases hl : 0 < len
    · exact .inl ⟨h, hl, by simp [h, hl, State.irqRaise]⟩
    · exact .inr (.inl ⟨h, by omega, by simp [h, hl, State.irqRaise]⟩)
  · exact .inr (.inr ⟨h, by simp [h, State.logEvent]⟩)

/-- What a Select does, by the bus's answer. -/
theorem cmdSelect_cases (s : State) :
    (∃ h, s.nextDevice = some h ∧ s.cmdSelect = { s with
      curDev := some h, curLun := none, scsiStatus := Config.stSelectComplete, auxStatus := setInt s.auxStatus, irq := true,
      devAnswers := s.devAnswers.tail, busCalls := s.busCalls + 1,
      busTrace := s.busTrace ++ [.findDevice (targetId s) (some h)] }) ∨
    (s.nextDevice = none ∧ s.cmdSelect = { s with
      curDev := none, curLun := none, devAnswers := s.devAnswers.tail, busCalls := s.busCalls + 1,
      busTrace := s.busTrace ++ [.findDevice (targetId s) none] }) := by
  cases h : s.nextDevice with
  | some d =>
    have h' : ({ s with curDev := none, curLun := none } : State).nextDevice = some d := h
    refine .inl ⟨d, rfl, ?_⟩
    simp [State.cmdSelect, h, h', State.findDevice, State.traceCall, State.irqRaise]
  | none =>
    have h' : ({ s with curDev := none, curLun := none } : State).nextDevice = none := h
    refine .inr ⟨rfl, ?_⟩
    simp [State.cmdSelect, h, h', State.findDevice, State.traceCall]

theorem startPolledOut_eq (s : State) : s.startPolledOut = { s with
    buf := List.replicate (transferSize s) 0x00#8, pos := 0, size := transferSize s,
    log := if s.state.pending then s.log ++ [.transferSuperseded] else s.log, state := .polledWaitingDataOut } := by
  unfold State.startPolledOut State.xferBegin
  cases s.state.pending <;> rfl

theorem startPolledIn_eq (lun : LunHandle) (s : State) : s.startPolledIn lun = { s with
    curReq := some s.nextRead.1, buf := s.nextRead.2.2, pos := 0, size := s.nextRead.2.2.length,
    log := if s.state.pending then s.log ++ [.transferSuperseded] else s.log, state := .polledWaitingDataIn,
    readAnswers := s.readAnswers.tail, outstanding := addOutstanding s.nextRead.2.1 s.outstanding,
    issued := s.nextRead.1 :: s.issued,
    busCalls := s.busCalls + 1,
    busTrace := s.busTrace ++ [.enqueueRead lun (transferSize s) s.nextRead.1 s.nextRead.2.1 s.nextRead.2.2] } := by
  unfold State.startPolledIn State.xferBegin
  cases s.state.pending <;> rfl

/-- What Transfer-Info does once the lookup has answered `u`: log that there is no unit, log that the mode is not polled, fill, or
drain. -/
theorem transferOn_cases (u : Option LunHandle) (s : State) :
    (u = none ∧ s.transferOn u = s.logEvent (.lunNotFound s.targetLun)) ∨
    (∃ lun, u = some lun ∧ dmaMode s ≠ Config.dmaModePolled ∧
      s.transferOn u = { s with curLun := some lun, log := s.log ++ [.unsupportedDmaMode (dmaMode s)] }) ∨
    (∃ lun, u = some lun ∧ dmaMode s = Config.dmaModePolled ∧ s.phase = .dataOut ∧ s.transferOn u = { s with
      curLun := some lun, buf := List.replicate (transferSize s) 0x00#8, pos := 0, size := transferSize s,
      log := if s.state.pending then s.log ++ [.transferSuperseded] else s.log, state := .polledWaitingDataOut }) ∨
    (∃ lun, u = some lun ∧ dmaMode s = Config.dmaModePolled ∧ s.phase = .dataIn ∧ s.transferOn u = { s with
      curLun := some lun, curReq := some s.nextRead.1, buf := s.nextRead.2.2, pos := 0, size := s.nextRead.2.2.length,
      log := if s.state.pending then s.log ++ [.transferSuperseded] else s.log, state := .polledWaitingDataIn,
      readAnswers := s.readAnswers.tail, outstanding := addOutstanding s.nextRead.2.1 s.outstanding,
      issued := s.nextRead.1 :: s.issued,
      busCalls := s.busCalls + 1,
      busTrace := s.busTrace ++ [.enqueueRead lun (transferSize s) s.nextRead.1 s.nextRead.2.1 s.nextRead.2.2] }) := by
  cases u with
  | none => exact .inl ⟨rfl, rfl⟩
  | some lun =>
    right
    by_cases hm : dmaMode s = Config.dmaModePolled
    · right
      have hphase : s.phase = .dataOut ∨ s.phase = .dataIn := by cases s.phase <;> simp
      rcases hphase with hp | hp
      · refine .inl ⟨lun, rfl, hm, hp, ?_⟩
        unfold State.transferOn
        dsimp only
        rw [if_pos hm]
        split
        · exact startPolledOut_eq { s with curLun := some lun }
        · simp_all only [reduceCtorEq]
      · refine .inr ⟨lun, rfl, hm, hp, ?_⟩
        unfold State.transferOn
        dsimp only
        rw [if_pos hm]
        split
        · simp_all only [reduceCtorEq]
        · exact startPolledIn_eq lun { s with curLun := some lun }
    · refine .inl ⟨lun, rfl, hm, ?_⟩
      unfold State.transferOn
      dsimp only
      rw [if_neg hm]
      rfl

end Sys2Proof.Machine
end

