-- ==== Sys2Proof/Laws/PerInstr.lean ====
section
/-! SUPPORT. Facts about the instruction as syntax, one lemma per constructor. -/

namespace Sys2Proof.Laws

theorem wellFormed_instr (r : IndexRow) (a : RegAccess) : (r.instr a).wellFormed = (r.instr .read).wellFormed := by
  cases r <;> rfl

set_option maxRecDepth 8192 in
/-- Whatever is decoded is well formed: an index or an opcode lands in a row that it belongs to (R98, R104, R109). -/
theorem decode_wellFormed (c : Code) : (decode c).wellFormed = true := by
  cases c with
  | access w =>
    show (decodeAccess w).wellFormed = true
    unfold decodeAccess
    split <;> rfl
  | regidx p a =>
    show ((decodeIndex p).instr a).wellFormed = true
    rw [wellFormed_instr]
    revert p
    decide
  | cmd op =>
    show (decodeCommand op).instr.wellFormed = true
    revert op
    decide
  | reset => rfl
  | complete len => rfl

namespace DecodedWellFormed

/-- If any encoded form decodes to `i`, then `i` is well formed. -/
def Statement (i : Instr) : Prop := ∀ c : Code, decode c = i → i.wellFormed = true

theorem of_decode {i : Instr} : Statement i := fun c h => h ▸ decode_wellFormed c

theorem ar : Statement .ar := of_decode
theorem dr : Statement .dr := of_decode
theorem aw (v : Byte) : Statement (.aw v) := of_decode
theorem dw (v : Byte) : Statement (.dw v) := of_decode
theorem idxOwnId (a : RegAccess) : Statement (.idxOwnId a) := of_decode
theorem idxControl (a : RegAccess) : Statement (.idxControl a) := of_decode
theorem idxTimeoutPeriod (a : RegAccess) : Statement (.idxTimeoutPeriod a) := of_decode
theorem idxTotalSectors (a : RegAccess) : Statement (.idxTotalSectors a) := of_decode
theorem idxTotalHeads (a : RegAccess) : Statement (.idxTotalHeads a) := of_decode
theorem idxTotalCylMsb (a : RegAccess) : Statement (.idxTotalCylMsb a) := of_decode
theorem idxTotalCylLsb (a : RegAccess) : Statement (.idxTotalCylLsb a) := of_decode
theorem idxLogAddrMsb (a : RegAccess) : Statement (.idxLogAddrMsb a) := of_decode
theorem idxLogAddr2nd (a : RegAccess) : Statement (.idxLogAddr2nd a) := of_decode
theorem idxLogAddr3rd (a : RegAccess) : Statement (.idxLogAddr3rd a) := of_decode
theorem idxLogAddrLsb (a : RegAccess) : Statement (.idxLogAddrLsb a) := of_decode
theorem idxSectorNumber (a : RegAccess) : Statement (.idxSectorNumber a) := of_decode
theorem idxHeadNumber (a : RegAccess) : Statement (.idxHeadNumber a) := of_decode
theorem idxCylNumberMsb (a : RegAccess) : Statement (.idxCylNumberMsb a) := of_decode
theorem idxCylNumberLsb (a : RegAccess) : Statement (.idxCylNumberLsb a) := of_decode
theorem idxTargetLun (a : RegAccess) : Statement (.idxTargetLun a) := of_decode
theorem idxCommandPhase (a : RegAccess) : Statement (.idxCommandPhase a) := of_decode
theorem idxSyncTransfer (a : RegAccess) : Statement (.idxSyncTransfer a) := of_decode
theorem idxTcMsb (a : RegAccess) : Statement (.idxTcMsb a) := of_decode
theorem idxTcMid (a : RegAccess) : Statement (.idxTcMid a) := of_decode
theorem idxTcLsb (a : RegAccess) : Statement (.idxTcLsb a) := of_decode
theorem idxDestinationId (a : RegAccess) : Statement (.idxDestinationId a) := of_decode
theorem idxSourceId (a : RegAccess) : Statement (.idxSourceId a) := of_decode
theorem idxScsiStatus (a : RegAccess) : Statement (.idxScsiStatus a) := of_decode
theorem idxCommand (a : RegAccess) : Statement (.idxCommand a) := of_decode
theorem idxData (a : RegAccess) : Statement (.idxData a) := of_decode
theorem idxAuxStatus (a : RegAccess) : Statement (.idxAuxStatus a) := of_decode
theorem idxUnknown1A (a : RegAccess) : Statement (.idxUnknown1A a) := of_decode
theorem idxUnknown1B (a : RegAccess) : Statement (.idxUnknown1B a) := of_decode
theorem idxUnknown1C (a : RegAccess) : Statement (.idxUnknown1C a) := of_decode
theorem idxUnknown1D (a : RegAccess) : Statement (.idxUnknown1D a) := of_decode
theorem idxUnknown1E (a : RegAccess) : Statement (.idxUnknown1E a) := of_decode
theorem idxUnknown20_3F (p : Index) (a : RegAccess) : Statement (.idxUnknown20_3F p a) := of_decode
theorem idxUnknown40_7F (p : Index) (a : RegAccess) : Statement (.idxUnknown40_7F p a) := of_decode
theorem idxUnknown (p : Index) (a : RegAccess) : Statement (.idxUnknown p a) := of_decode
theorem opReset : Statement .opReset := of_decode
theorem opAbort : Statement .opAbort := of_decode
theorem opAssertAtn : Statement .opAssertAtn := of_decode
theorem opNegateAck : Statement .opNegateAck := of_decode
theorem opDisconnect : Statement .opDisconnect := of_decode
theorem opReselect : Statement .opReselect := of_decode
theorem opSelAtn : Statement .opSelAtn := of_decode
theorem opSel : Statement .opSel := of_decode
theorem opSelAtnXfer : Statement .opSelAtnXfer := of_decode
theorem opSelXfer : Statement .opSelXfer := of_decode
theorem opReselReceive : Statement .opReselReceive := of_decode
theorem opReselSend : Statement .opReselSend := of_decode
theorem opWaitSelReceive : Statement .opWaitSelReceive := of_decode
theorem opSendStatusCmdComplete : Statement .opSendStatusCmdComplete := of_decode
theorem opSendDisconnect : Statement .opSendDisconnect := of_decode
theorem opSetIdi : Statement .opSetIdi := of_decode
theorem opRcvCmd : Statement .opRcvCmd := of_decode
theorem opRcvData : Statement .opRcvData := of_decode
theorem opRcvMsgOut : Statement .opRcvMsgOut := of_decode
theorem opRcv : Statement .opRcv := of_decode
theorem opSndStatus : Statement .opSndStatus := of_decode
theorem opSndData : Statement .opSndData := of_decode
theorem opSndMsgIn : Statement .opSndMsgIn := of_decode
theorem opSnd : Statement .opSnd := of_decode
theorem opTranslateAddr : Statement .opTranslateAddr := of_decode
theorem opTransferInfo : Statement .opTransferInfo := of_decode
theorem opUnsupported (op : Byte) : Statement (.opUnsupported op) := of_decode
theorem deviceReset : Statement .deviceReset := of_decode
theorem busComplete (len : Int) : Statement (.busComplete len) := of_decode

end DecodedWellFormed

end Sys2Proof.Laws
end

