-- ==== Sys2Proof/Laws/Registers.lean ====
section
/-! SUPPORT. What the register actions and the commands can do: one inversion lemma each. -/

namespace Sys2Proof.Machine

/-- `t` differs from `s` at most in plain registers, the log and the returned byte. -/
def Quiet (s t : State) : Prop :=
  t.withoutPlainRegisters = ({ s with log := t.log, result := t.result }).withoutPlainRegisters

/-- The fields outside the plain registers, the log and the returned byte, after a quiet action. -/
theorem quiet_fields {s t : State} (q : Quiet s t) :
    t.fifo = s.fifo ∧ t.pos = s.pos ∧ t.size = s.size ∧ t.buf = s.buf ∧ t.irq = s.irq ∧ t.auxStatus = s.auxStatus ∧
    t.state = s.state ∧ t.phase = s.phase ∧ t.curLun = s.curLun ∧ t.curDev = s.curDev ∧ t.scsiStatus = s.scsiStatus ∧
    t.outstanding = s.outstanding ∧ t.ptr = s.ptr ∧ t.command = s.command ∧ t.script = s.script ∧ t.busTrace = s.busTrace := by
  have q' : t.withoutPlainRegisters = ({ s with log := t.log, result := t.result } : State).withoutPlainRegisters := q
  exact ⟨(congrArg State.fifo q' :), (congrArg State.pos q' :), (congrArg State.size q' :), (congrArg State.buf q' :),
    (congrArg State.irq q' :), (congrArg State.auxStatus q' :), (congrArg State.state q' :), (congrArg State.phase q' :),
    (congrArg State.curLun q' :), (congrArg State.curDev q' :), (congrArg State.scsiStatus q' :),
    (congrArg State.outstanding q' :), (congrArg State.ptr q' :), (congrArg State.command q' :),
    (congrArg State.script q' :), (congrArg State.busTrace q' :)⟩

/-- The instruction of an index row runs that row's action. -/
theorem exec_regidx (p : Index) (a : RegAccess) (s : State) : exec (decode (.regidx p a)) s = registerAction p a s := by
  show exec ((decodeIndex p).instr a) s = _
  unfold registerAction
  cases decodeIndex p <;> rfl

/-- The instruction of an opcode row runs that row's command. -/
theorem exec_cmd (op : Byte) (s : State) : exec (decode (.cmd op)) s = runCommand op s := by
  show exec (decodeCommand op).instr s = _
  unfold runCommand
  cases decodeCommand op <;> rfl

/-- Transfer-Info asks the bus for the unit of the bound device, or finds no unit without asking. -/
theorem cmdTransferInfo_cases (s : State) :
    (∃ d, s.curDev = some d ∧ s.cmdTransferInfo = (s.findLun d (unitNumber s)).transferOn s.nextLun) ∨
    (s.curDev = none ∧ s.cmdTransferInfo = s.logEvent (.lunNotFound s.targetLun)) := by
  unfold State.cmdTransferInfo
  cases s.curDev with
  | none => exact .inr ⟨rfl, rfl⟩
  | some d => exact .inl ⟨d, rfl, rfl⟩

/-- What a command can do, by its opcode; it always completes. -/
theorem runCommand_cases (op : Byte) (s : State) : ∃ t, runCommand op s = .next t ∧
    (t = s ∨ t = s.logEvent (.unsupportedCommand op) ∨ (op = Config.opReset ∧ t = s.cmdReset) ∨
      (op ∈ selectOpcodes ∧ t = s.cmdSelect) ∨ (op = Config.opTransferInfo ∧ t = s.cmdTransferInfo)) := by
  have hop := opcode_decodeCommand op
  unfold runCommand
  revert hop
  cases decodeCommand op <;> intro hop <;> refine ⟨_, rfl, ?_⟩ <;>
    simp [← hop, CommandRow.opcode, selectOpcodes]

/-- What a register action can do, by its index and access; it always completes. -/
theorem registerAction_cases (p : Index) (a : RegAccess) (s : State) : ∃ t, registerAction p a s = .next t ∧
    (Quiet s t ∨
      (p = Config.idxScsiStatus ∧ a = .read ∧ t = s.irqAck.answer s.scsiStatus) ∨
      (p = Config.idxCommand ∧ ∃ v, a = .write v ∧ runCommand v { s with command := v } = .next t) ∨
      (p = Config.idxData ∧ a = .read ∧ t = s.fifoPop) ∨
      (p = Config.idxData ∧ ∃ v, a = .write v ∧ t = s.fifoPush v)) := by
  have hp := index_decodeIndex p
  unfold registerAction
  revert hp
  cases decodeIndex p <;> intro hp <;> cases a
  case command.write v =>
    obtain ⟨t, ht, _⟩ := runCommand_cases v { s with command := v }
    exact ⟨t, ht, .inr (.inr (.inl ⟨hp.symm, v, rfl, ht⟩))⟩
  case scsiStatus.read => exact ⟨_, rfl, .inr (.inl ⟨hp.symm, rfl, rfl⟩)⟩
  case data.read => exact ⟨_, rfl, .inr (.inr (.inr (.inl ⟨hp.symm, rfl, rfl⟩)))⟩
  case data.write v => exact ⟨_, rfl, .inr (.inr (.inr (.inr ⟨hp.symm, v, rfl, rfl⟩)))⟩
  all_goals exact ⟨_, rfl, .inl rfl⟩

end Sys2Proof.Machine
end

