-- ==== Sys2Proof/Laws/Step.lean ====
section
/-! SUPPORT. What one step can do: the inversion lemmas that every statement about `step` starts from. -/

namespace Sys2Proof.Machine

/-- A step runs the instruction of the line it takes. -/
theorem step_cons {s : State} {line : Line} {rest : List Line} (hs : s.script = line :: rest) {i : Instr}
    (hl : decodeLine line = .ok i) : step s = exec i (s.takeLine rest) := by
  unfold step
  simp only [hs, hl]

/-- A step that does not run an instruction has no line left, or a line outside the interface. -/
theorem step_cases (s : State) :
    (s.script = [] ∧ step s = .next s) ∨
    (∃ a rest, s.script = .host a :: rest ∧ a.admitted = false ∧ step s = .refused .badAccess) ∨
    (∃ line rest i, s.script = line :: rest ∧ decodeLine line = .ok i ∧ step s = exec i (s.takeLine rest)) := by
  cases hs : s.script with
  | nil => exact .inl ⟨rfl, by unfold step; simp only [hs]⟩
  | cons line rest =>
    right
    cases hl : decodeLine line with
    | ok i => exact .inr ⟨line, rest, i, rfl, hl, step_cons hs hl⟩
    | error e =>
      obtain ⟨a, rfl, ha⟩ := decodeLine_error hl
      refine .inl ⟨a, rest, rfl, ha, ?_⟩
      unfold step
      simp only [hs, hl]

/-- What an access to the data port can do when it completes: an intercepted read or write of the transfer buffer, or the
action of the register that the pointer names; the pointer advances after either. -/
inductive DataPort (s : State) : Instr → State → Prop where
  | fetch (b : Byte) : s.state = .polledWaitingDataIn → s.pos < s.size → s.buf[s.pos]? = some b →
      DataPort s .dr (State.ptrAdvance s.ptr { s with pos := s.pos + 1, result := some b })
  | append (v : Byte) : s.state = .polledWaitingDataOut → s.pos + 1 < s.size →
      DataPort s (.dw v) (State.ptrAdvance s.ptr { s with buf := s.buf.set s.pos v, pos := s.pos + 1 })
  | submit (v : Byte) : s.state = .polledWaitingDataOut → s.pos + 1 = s.size →
      DataPort s (.dw v) (State.ptrAdvance s.ptr ({ s with buf := s.buf.set s.pos v, pos := s.pos + 1 }).xferSubmit)
  | quiet (i : Instr) (t : State) : i = .dr ∨ (∃ v, i = .dw v) → Quiet s t → DataPort s i (State.ptrAdvance s.ptr t)
  | status : s.state ≠ .polledWaitingDataIn → s.ptr = Config.idxScsiStatus →
      DataPort s .dr (State.ptrAdvance s.ptr (s.irqAck.answer s.scsiStatus))
  | command (v : Byte) (t : State) : s.state ≠ .polledWaitingDataOut → s.ptr = Config.idxCommand →
      runCommand v { s with command := v } = .next t → DataPort s (.dw v) (State.ptrAdvance s.ptr t)
  | pop : s.ptr = Config.idxData → DataPort s .dr (State.ptrAdvance s.ptr s.fifoPop)
  | push (v : Byte) : s.ptr = Config.idxData → DataPort s (.dw v) (State.ptrAdvance s.ptr (s.fifoPush v))

theorem intercepts_read (c : CtrlState) : c.intercepts .read = true ↔ c = .polledWaitingDataIn := by
  cases c <;> simp [CtrlState.intercepts]

theorem intercepts_write (c : CtrlState) (v : Byte) : c.intercepts (.write v) = true ↔ c = .polledWaitingDataOut := by
  cases c <;> simp [CtrlState.intercepts]

/-- A data-port read that no intercept takes. -/
theorem exec_dr_register {s : State} (h : s.state ≠ .polledWaitingDataIn) :
    exec .dr s = mapNext (State.ptrAdvance s.ptr) (registerAction s.ptr .read s) := by
  show execDr s = _
  unfold execDr
  rw [if_neg (mt (intercepts_read _).1 h)]

/-- A data-port read that the transfer buffer takes. -/
theorem exec_dr_intercepted {s : State} (h : s.state = .polledWaitingDataIn) :
    exec .dr s = mapNext (State.ptrAdvance s.ptr) (xferFetch s) := by
  show execDr s = _
  unfold execDr
  rw [if_pos ((intercepts_read _).2 h)]

/-- A data-port write that no intercept takes. -/
theorem exec_dw_register {s : State} (v : Byte) (h : s.state ≠ .polledWaitingDataOut) :
    exec (.dw v) s = mapNext (State.ptrAdvance s.ptr) (registerAction s.ptr (.write v) s) := by
  show execDw v s = _
  unfold execDw
  rw [if_neg (mt (intercepts_write _ v).1 h)]

/-- A data-port write that the transfer buffer takes. -/
theorem exec_dw_intercepted {s : State} (v : Byte) (h : s.state = .polledWaitingDataOut) :
    exec (.dw v) s = mapNext (State.ptrAdvance s.ptr) (xferAppend v s) := by
  show execDw v s = _
  unfold execDw
  rw [if_pos ((intercepts_write _ v).2 h)]

/-- A data-port read completes by one of the cases of `DataPort`, or faults past the end of the transfer. -/
theorem exec_dr_cases (s : State) :
    (∃ t, exec .dr s = .next t ∧ DataPort s .dr t) ∨
    (s.state = .polledWaitingDataIn ∧ (s.size ≤ s.pos ∨ s.buf.length ≤ s.pos) ∧ exec .dr s = .fault .xferOutOfRange) := by
  by_cases h : s.state = .polledWaitingDataIn
  · rw [exec_dr_intercepted h]
    rcases xferFetch_cases s with ⟨b, hp, hb, he⟩ | ⟨hp, he⟩
    · exact .inl ⟨_, by rw [he]; rfl, .fetch b h hp hb⟩
    · exact .inr ⟨h, hp, by rw [he]; rfl⟩
  · rw [exec_dr_register h]
    obtain ⟨t, he, hc⟩ := registerAction_cases s.ptr .read s
    refine .inl ⟨_, by rw [he]; rfl, ?_⟩
    rcases hc with hq | ⟨hp, -, rfl⟩ | ⟨-, v, ha, -⟩ | ⟨hp, -, rfl⟩ | ⟨-, v, ha, -⟩
    · exact .quiet _ _ (.inl rfl) hq
    · exact .status h hp
    · cases ha
    · exact .pop hp
    · cases ha

/-- A data-port write completes by one of the cases of `DataPort`, or faults past the end of the transfer. -/
theorem exec_dw_cases (v : Byte) (s : State) :
    (∃ t, exec (.dw v) s = .next t ∧ DataPort s (.dw v) t) ∨
    (s.state = .polledWaitingDataOut ∧ s.size ≤ s.pos ∧ exec (.dw v) s = .fault .xferOutOfRange) := by
  by_cases h : s.state = .polledWaitingDataOut
  · rw [exec_dw_intercepted v h]
    rcases xferAppend_cases v s with ⟨hp, he⟩ | ⟨hp, he⟩ | ⟨hp, he⟩
    · exact .inl ⟨_, by rw [he]; rfl, .append v h hp⟩
    · exact .inl ⟨_, by rw [he]; rfl, .submit v h hp⟩
    · exact .inr ⟨h, hp, by rw [he]; rfl⟩
  · rw [exec_dw_register v h]
    obtain ⟨t, he, hc⟩ := registerAction_cases s.ptr (.write v) s
    refine .inl ⟨_, by rw [he]; rfl, ?_⟩
    rcases hc with hq | ⟨-, ha, -⟩ | ⟨hp, w, ha, hr⟩ | ⟨-, ha, -⟩ | ⟨hp, w, ha, rfl⟩
    · exact .quiet _ _ (.inr ⟨v, rfl⟩) hq
    · cases ha
    · cases ha; exact .command v t h hp hr
    · cases ha
    · cases ha; exact .push v hp

/-- What a completed step can do: nothing, or one of the six kinds of step (R8) on the state whose line was taken. -/
theorem step_next_cases {s t : State} (h : step s = .next t) :
    (s.script = [] ∧ t = s) ∨
    ∃ line rest i, s.script = line :: rest ∧ decodeLine line = .ok i ∧
      ((i = .ar ∧ t = (s.takeLine rest).answer s.auxByte) ∨
       (∃ v, i = .aw v ∧ t = { s.takeLine rest with ptr := loadIndex v }) ∨
       DataPort (s.takeLine rest) i t ∨
       (i = .deviceReset ∧ t = (s.takeLine rest).deviceReset) ∨
       (∃ len, i = .busComplete len ∧ line = .complete len ∧ len ∈ s.outstanding ∧
         t = ({ s.takeLine rest with outstanding := s.outstanding.erase len }).completion len)) := by
  rcases step_cases s with ⟨hs, he⟩ | ⟨a, rest, hs, -, he⟩ | ⟨line, rest, i, hs, hl, he⟩
  · exact .inl ⟨hs, by rw [he] at h; cases h; rfl⟩
  · rw [he] at h; cases h
  · refine .inr ⟨line, rest, i, hs, hl, ?_⟩
    rw [he] at h
    rcases decodeLine_cases hl with rfl | rfl | ⟨v, rfl⟩ | ⟨v, rfl⟩ | ⟨-, rfl⟩ | ⟨len, hline, rfl⟩
    · exact .inl ⟨rfl, by cases h; rfl⟩
    · rcases exec_dr_cases (s.takeLine rest) with ⟨u, hu, hd⟩ | ⟨-, -, hu⟩
      · rw [hu] at h; cases h; exact .inr (.inr (.inl hd))
      · rw [hu] at h; cases h
    · exact .inr (.inl ⟨v, rfl, by cases h; rfl⟩)
    · rcases exec_dw_cases v (s.takeLine rest) with ⟨u, hu, hd⟩ | ⟨-, -, hu⟩
      · rw [hu] at h; cases h; exact .inr (.inr (.inl hd))
      · rw [hu] at h; cases h
    · exact .inr (.inr (.inr (.inl ⟨rfl, by cases h; rfl⟩)))
    · refine .inr (.inr (.inr (.inr ⟨len, rfl, hline, ?_⟩)))
      have h' : execBusComplete len (s.takeLine rest) = .next t := h
      unfold execBusComplete at h'
      split at h'
      · rename_i hm
        cases h'
        exact ⟨by simpa [State.takeLine] using hm, rfl⟩
      · cases h'

/-! ## Runs -/

theorem core_run_zero (M : Host.Core) (s : M.State) : M.run 0 s = .next s := rfl

theorem core_run_next {M : Host.Core} {s u : M.State} (k : Nat) (h : M.step s = .next u) : M.run (k + 1) s = M.run k u := by
  simp only [Host.Core.run, h]

theorem core_run_fault {M : Host.Core} {s : M.State} {r : M.Fault} (k : Nat) (h : M.step s = .fault r) :
    M.run (k + 1) s = .fault r := by
  simp only [Host.Core.run, h]

theorem core_run_refused {M : Host.Core} {s : M.State} {r : M.Refusal} (k : Nat) (h : M.step s = .refused r) :
    M.run (k + 1) s = .refused r := by
  simp only [Host.Core.run, h]

/-- A run of this machine whose first step completes. -/
theorem run_next {n : Nat} {s u : State} (h : step s = .next u) : Sys2Proof.core.run (n + 1) s = Sys2Proof.core.run n u :=
  core_run_next (M := Sys2Proof.core) n h

/-- A run of one step. -/
theorem run_one {s u : State} (h : step s = .next u) : Sys2Proof.core.run 1 s = .next u :=
  (run_next h).trans rfl

/-- A run of this machine whose first step faults. -/
theorem run_fault {n : Nat} {s : State} {r : Fault} (h : step s = .fault r) : Sys2Proof.core.run (n + 1) s = .fault r :=
  core_run_fault (M := Sys2Proof.core) n h

/-- A run of this machine whose first step is refused. -/
theorem run_refused {n : Nat} {s : State} {r : Refusal} (h : step s = .refused r) :
    Sys2Proof.core.run (n + 1) s = .refused r :=
  core_run_refused (M := Sys2Proof.core) n h

end Sys2Proof.Machine
end

