-- ==== Sys2Proof/Tests/Slice0.lean ====
section
/-! SUPPORT. The model's own tests. Expected values are the spec's: the encodings of 30_encoding.md and opcode_table.json, and the
vectors of 95_test_vectors.md, named in each docstring. Then, for every statement with hypotheses, a state that meets them. -/

namespace Sys2Proof.Tests

open Sys2Proof Sys2Proof.Machine

/-- The next state of an outcome, none if it stopped. -/
def nextOf : Host.Outcome State Fault Refusal → Option State
  | .next s => some s
  | .fault _ | .refused _ => none

/-- The fault of an outcome. -/
def faultOf : Host.Outcome State Fault Refusal → Option Fault
  | .fault r => some r
  | .next _ | .refused _ => none

/-- The refusal of an outcome. -/
def refusalOf : Host.Outcome State Fault Refusal → Option Refusal
  | .refused r => some r
  | .next _ | .fault _ => none

/-- One step of `s` with the one line `line` to come. -/
def did (line : Line) (s : State) : Option State := nextOf (step { s with script := [line] })

/-- The state after `DW v` with the pointer at `i`. -/
def wrote (i : Index) (v : Byte) (s : State) : Option State := did (.dw v) { s with ptr := i }

/-- The state after `DR` with the pointer at `i`. -/
def readAt (i : Index) (s : State) : Option State := did .dr { s with ptr := i }

/-- There is a next state and it is as `p` says. -/
def shows (o : Option State) (p : State → Bool) : Bool :=
  match o with
  | some t => p t
  | none => false

/-! ## Well-formedness: one ill-formed term for each check -/

/-- An index with a row of its own, or of another range, is refused where it is carried. -/
theorem test_wellFormed_refuses_index :
    (Instr.idxUnknown20_3F 0x1f#7 .read).wellFormed = false ∧ (Instr.idxUnknown20_3F 0x40#7 .read).wellFormed = false ∧
    (Instr.idxUnknown40_7F 0x3f#7 .read).wellFormed = false ∧
    (Instr.idxUnknown40_7F 0x17#7 (.write 0x00#8)).wellFormed = false ∧
    (Instr.idxUnknown 0x00#7 .read).wellFormed = false ∧ (Instr.idxUnknown 0x20#7 .read).wellFormed = false ∧
    (Instr.idxUnknown 0x7f#7 .read).wellFormed = false := by decide

/-- An opcode with a row of its own is refused where it is carried. -/
theorem test_wellFormed_refuses_opcode :
    (Instr.opUnsupported 0x06#8).wellFormed = false ∧ (Instr.opUnsupported 0x01#8).wellFormed = false ∧
    (Instr.opUnsupported 0x19#8).wellFormed = true := by decide

/-- A host access of another width, at another offset, or of more than a byte is refused. -/
theorem test_admitted_refuses_access :
    HostAccess.admitted ⟨false, 0, 2, 0⟩ = false ∧ HostAccess.admitted ⟨true, 1, 4, 0⟩ = false ∧
    HostAccess.admitted ⟨false, 2, 1, 0⟩ = false ∧ HostAccess.admitted ⟨true, 0, 1, 256⟩ = false ∧
    HostAccess.admitted ⟨true, 1, 1, 255⟩ = true := by decide

/-- R7: the default numbers are pairwise distinct, the three status codes distinct and not 0. -/
theorem test_config_distinct :
    exactIndices.Nodup ∧ exactOpcodes.Nodup ∧
    [0x00#8, Config.stSelectComplete, Config.stXferDoneDataOut, Config.stXferDoneDataIn].Nodup := by decide

/-- R6, R7, R22: the configured numbers meet the spec's constraints, the parameters with values have the table's. -/
theorem test_config_admissible :
    Config.admissible = true ∧ Config.ptrMod = 128 ∧ definedIndices.length = Config.nRegs ∧
    definedIndices.all (fun i => decide (i.toNat ≤ Config.idxLimit)) = true := by decide

/-- R61, whatever `BASE` and the window's size are: the data port is one above the address-pointer port, and an access there is the
access at offset 1. -/
theorem test_address :
    HostAccess.address ⟨false, 1, 1, 0⟩ = HostAccess.address ⟨false, 0, 1, 0⟩ + 1 ∧
    HostAccess.ofAddress? false (Config.base + 1) 1 0 = some ⟨false, 1, 1, 0⟩ :=
  ⟨rfl, ofAddress?_address ⟨false, 1, 1, 0⟩ (admitted_in_window rfl)⟩

/-- R94: the three codes by their numbers, as vectors D1, E3, E4 give them. -/
theorem test_status_codes :
    Config.stSelectComplete = 0x11#8 ∧ Config.stXferDoneDataOut = 0x18#8 ∧ Config.stXferDoneDataIn = 0x19#8 := by decide

/-! ## Decoding: words written out from the spec's encodings -/

/-- R90 and the `access` rows: `W`, `A`, `D`; the `D` bits of a read are ignored. -/
theorem test_decode_access :
    decode (.access 0b0000000000#10) = .ar ∧ decode (.access 0b0011111111#10) = .ar ∧
    decode (.access 0b0100000000#10) = .dr ∧ decode (.access 0b0101010101#10) = .dr ∧
    decode (.access 0b1010010111#10) = .aw 0x97#8 ∧ decode (.access 0b1100010001#10) = .dw 0x11#8 := by decide

/-- R22, R98: the plain rows of the register map. -/
theorem test_decode_plain_registers :
    decode (.regidx 0b0000000#7 .read) = .idxOwnId .read ∧
      decode (.regidx 0b0000000#7 (.write 0xa5#8)) = .idxOwnId (.write 0xa5#8) ∧
    decode (.regidx 0b0000001#7 .read) = .idxControl .read ∧
      decode (.regidx 0b0000001#7 (.write 0xa5#8)) = .idxControl (.write 0xa5#8) ∧
    decode (.regidx 0b0000010#7 .read) = .idxTimeoutPeriod .read ∧
      decode (.regidx 0b0000010#7 (.write 0xa5#8)) = .idxTimeoutPeriod (.write 0xa5#8) ∧
    decode (.regidx 0b0000011#7 .read) = .idxTotalSectors .read ∧
      decode (.regidx 0b0000011#7 (.write 0xa5#8)) = .idxTotalSectors (.write 0xa5#8) ∧
    decode (.regidx 0b0000100#7 .read) = .idxTotalHeads .read ∧
      decode (.regidx 0b0000100#7 (.write 0xa5#8)) = .idxTotalHeads (.write 0xa5#8) ∧
    decode (.regidx 0b0000101#7 .read) = .idxTotalCylMsb .read ∧
      decode (.regidx 0b0000101#7 (.write 0xa5#8)) = .idxTotalCylMsb (.write 0xa5#8) ∧
    decode (.regidx 0b0000110#7 .read) = .idxTotalCylLsb .read ∧
      decode (.regidx 0b0000110#7 (.write 0xa5#8)) = .idxTotalCylLsb (.write 0xa5#8) ∧
    decode (.regidx 0b0000111#7 .read) = .idxLogAddrMsb .read ∧
      decode (.regidx 0b0000111#7 (.write 0xa5#8)) = .idxLogAddrMsb (.write 0xa5#8) ∧
    decode (.regidx 0b0001000#7 .read) = .idxLogAddr2nd .read ∧
      decode (.regidx 0b0001000#7 (.write 0xa5#8)) = .idxLogAddr2nd (.write 0xa5#8) ∧
    decode (.regidx 0b0001001#7 .read) = .idxLogAddr3rd .read ∧
      decode (.regidx 0b0001001#7 (.write 0xa5#8)) = .idxLogAddr3rd (.write 0xa5#8) ∧
    decode (.regidx 0b0001010#7 .read) = .idxLogAddrLsb .read ∧
      decode (.regidx 0b0001010#7 (.write 0xa5#8)) = .idxLogAddrLsb (.write 0xa5#8) ∧
    decode (.regidx 0b0001011#7 .read) = .idxSectorNumber .read ∧
      decode (.regidx 0b0001011#7 (.write 0xa5#8)) = .idxSectorNumber (.write 0xa5#8) ∧
    decode (.regidx 0b0001100#7 .read) = .idxHeadNumber .read ∧
      decode (.regidx 0b0001100#7 (.write 0xa5#8)) = .idxHeadNumber (.write 0xa5#8) ∧
    decode (.regidx 0b0001101#7 .read) = .idxCylNumberMsb .read ∧
      decode (.regidx 0b0001101#7 (.write 0xa5#8)) = .idxCylNumberMsb (.write 0xa5#8) ∧
    decode (.regidx 0b0001110#7 .read) = .idxCylNumberLsb .read ∧
      decode (.regidx 0b0001110#7 (.write 0xa5#8)) = .idxCylNumberLsb (.write 0xa5#8) ∧
    decode (.regidx 0b0001111#7 .read) = .idxTargetLun .read ∧
      decode (.regidx 0b0001111#7 (.write 0xa5#8)) = .idxTargetLun (.write 0xa5#8) ∧
    decode (.regidx 0b0010000#7 .read) = .idxCommandPhase .read ∧
      decode (.regidx 0b0010000#7 (.write 0xa5#8)) = .idxCommandPhase (.write 0xa5#8) ∧
    decode (.regidx 0b0010001#7 .read) = .idxSyncTransfer .read ∧
      decode (.regidx 0b0010001#7 (.write 0xa5#8)) = .idxSyncTransfer (.write 0xa5#8) ∧
    decode (.regidx 0b0010010#7 .read) = .idxTcMsb .read ∧
      decode (.regidx 0b0010010#7 (.write 0xa5#8)) = .idxTcMsb (.write 0xa5#8) ∧
    decode (.regidx 0b0010011#7 .read) = .idxTcMid .read ∧
      decode (.regidx 0b0010011#7 (.write 0xa5#8)) = .idxTcMid (.write 0xa5#8) ∧
    decode (.regidx 0b0010100#7 .read) = .idxTcLsb .read ∧
      decode (.regidx 0b0010100#7 (.write 0xa5#8)) = .idxTcLsb (.write 0xa5#8) ∧
    decode (.regidx 0b0010101#7 .read) = .idxDestinationId .read ∧
      decode (.regidx 0b0010101#7 (.write 0xa5#8)) = .idxDestinationId (.write 0xa5#8) ∧
    decode (.regidx 0b0010110#7 .read) = .idxSourceId .read ∧
      decode (.regidx 0b0010110#7 (.write 0xa5#8)) = .idxSourceId (.write 0xa5#8) := by decide

/-- R22, R98: the rows with side effects. -/
theorem test_decode_special_registers :
    decode (.regidx 0b0010111#7 .read) = .idxScsiStatus .read ∧
      decode (.regidx 0b0010111#7 (.write 0xa5#8)) = .idxScsiStatus (.write 0xa5#8) ∧
    decode (.regidx 0b0011000#7 .read) = .idxCommand .read ∧
      decode (.regidx 0b0011000#7 (.write 0xa5#8)) = .idxCommand (.write 0xa5#8) ∧
    decode (.regidx 0b0011001#7 .read) = .idxData .read ∧
      decode (.regidx 0b0011001#7 (.write 0xa5#8)) = .idxData (.write 0xa5#8) ∧
    decode (.regidx 0b0011111#7 .read) = .idxAuxStatus .read ∧
      decode (.regidx 0b0011111#7 (.write 0xa5#8)) = .idxAuxStatus (.write 0xa5#8) := by decide

/-- R98, R152: the indices that name no register. -/
theorem test_decode_unknown_indices :
    decode (.regidx 0b0011010#7 .read) = .idxUnknown1A .read ∧
      decode (.regidx 0b0011010#7 (.write 0xa5#8)) = .idxUnknown1A (.write 0xa5#8) ∧
    decode (.regidx 0b0011011#7 .read) = .idxUnknown1B .read ∧
      decode (.regidx 0b0011011#7 (.write 0xa5#8)) = .idxUnknown1B (.write 0xa5#8) ∧
    decode (.regidx 0b0011100#7 .read) = .idxUnknown1C .read ∧
      decode (.regidx 0b0011100#7 (.write 0xa5#8)) = .idxUnknown1C (.write 0xa5#8) ∧
    decode (.regidx 0b0011101#7 .read) = .idxUnknown1D .read ∧
      decode (.regidx 0b0011101#7 (.write 0xa5#8)) = .idxUnknown1D (.write 0xa5#8) ∧
    decode (.regidx 0b0011110#7 .read) = .idxUnknown1E .read ∧
      decode (.regidx 0b0011110#7 (.write 0xa5#8)) = .idxUnknown1E (.write 0xa5#8) ∧
    decode (.regidx 0b0100000#7 .read) = .idxUnknown20_3F 0x20#7 .read ∧
    decode (.regidx 0b0111111#7 .read) = .idxUnknown20_3F 0x3f#7 .read ∧
    decode (.regidx 0b1000000#7 .read) = .idxUnknown40_7F 0x40#7 .read ∧
    decode (.regidx 0b1111111#7 (.write 0x55#8)) = .idxUnknown40_7F 0x7f#7 (.write 0x55#8) := by decide

/-- The catch-all row answers to no index under the default numbering (log 15): every index has another row. -/
theorem test_catch_all_unreached : ∀ p : Index, (Instr.idxUnknown p .read).wellFormed = false := by decide

/-- R104: the opcodes. -/
theorem test_decode_commands :
    decode (.cmd 0b00000000#8) = .opReset ∧
    decode (.cmd 0b00000001#8) = .opAbort ∧
    decode (.cmd 0b00000010#8) = .opAssertAtn ∧
    decode (.cmd 0b00000011#8) = .opNegateAck ∧
    decode (.cmd 0b00000100#8) = .opDisconnect ∧
    decode (.cmd 0b00000101#8) = .opReselect ∧
    decode (.cmd 0b00000110#8) = .opSelAtn ∧
    decode (.cmd 0b00000111#8) = .opSel ∧
    decode (.cmd 0b00001000#8) = .opSelAtnXfer ∧
    decode (.cmd 0b00001001#8) = .opSelXfer ∧
    decode (.cmd 0b00001010#8) = .opReselReceive ∧
    decode (.cmd 0b00001011#8) = .opReselSend ∧
    decode (.cmd 0b00001100#8) = .opWaitSelReceive ∧
    decode (.cmd 0b00001101#8) = .opSendStatusCmdComplete ∧
    decode (.cmd 0b00001110#8) = .opSendDisconnect ∧
    decode (.cmd 0b00001111#8) = .opSetIdi ∧
    decode (.cmd 0b00010000#8) = .opRcvCmd ∧
    decode (.cmd 0b00010001#8) = .opRcvData ∧
    decode (.cmd 0b00010010#8) = .opRcvMsgOut ∧
    decode (.cmd 0b00010011#8) = .opRcv ∧
    decode (.cmd 0b00010100#8) = .opSndStatus ∧
    decode (.cmd 0b00010101#8) = .opSndData ∧
    decode (.cmd 0b00010110#8) = .opSndMsgIn ∧
    decode (.cmd 0b00010111#8) = .opSnd ∧
    decode (.cmd 0b00011000#8) = .opTranslateAddr ∧
    decode (.cmd 0b00100000#8) = .opTransferInfo ∧
    decode (.cmd 0b00011001#8) = .opUnsupported 0x19#8 ∧ decode (.cmd 0b00011111#8) = .opUnsupported 0x1f#8 ∧
    decode (.cmd 0b00100001#8) = .opUnsupported 0x21#8 ∧ decode (.cmd 0b11111111#8) = .opUnsupported 0xff#8 := by decide

/-- R108: the two events. -/
theorem test_decode_events :
    decodeLine .reset = .ok .deviceReset ∧ decodeLine (.complete (-5)) = .ok (.busComplete (-5)) := ⟨rfl, rfl⟩

/-- Log 14: table words of the two widths the host asks about. -/
theorem test_decode_table_words :
    decodeTableWord 16 0x000 = some .ar ∧ decodeTableWord 16 0x100 = some .dr ∧ decodeTableWord 16 0x297 = some (.aw 0x97#8) ∧
    decodeTableWord 16 0x306 = some (.dw 0x06#8) ∧ decodeTableWord 8 0x17 = some (.idxScsiStatus .read) ∧
    decodeTableWord 8 0x80 = some (.opUnsupported 0x80#8) ∧ decodeTableWord 16 0x400 = none := by decide

/-- Log 14: a table word placed for the next step is fetched and run by it. -/
theorem test_withFetchWord_runs :
    (nextOf (step (State.reset.withFetchWord 16 0x297))).map State.ptr = some 0x17#7 ∧
    (nextOf (step (State.reset.withFetchWord 8 0x7f))).map State.log = some [.unknownRegRead 0x7f#7] ∧
    (nextOf (step (State.reset.withFetchWord 8 0x80))).map State.log = some [.unsupportedCommand 0x80#8] := by decide

/-! ## Port operations (vectors A1 to A13) -/

/-- A1, and with a full queue and `INT` set. -/
theorem test_ar :
    (did .ar State.reset).map State.result = some (some 0x01#8) ∧
    (did .ar { State.reset with auxStatus := 0x80#8, fifo := List.replicate 12 0x40#8 }).map State.result = some (some 0x80#8) :=
  by decide

/-- A2, A3. -/
theorem test_aw :
    (did (.aw 0x97#8) State.reset).map State.ptr = some 0x17#7 ∧ (did (.aw 0xff#8) State.reset).map State.ptr = some 0x7f#7 := by
  decide

/-- A5: the pointer wraps, the unknown read returns 0 and is logged. -/
theorem test_dr_wraps :
    (readAt 0x7f#7 State.reset).map State.ptr = some 0x00#7 ∧ (readAt 0x7f#7 State.reset).map State.result = some (some 0x00#8) ∧
    (readAt 0x7f#7 State.reset).map State.log = some [.unknownRegRead 0x7f#7] := by decide

/-- A6, A7: the pointer goes onto the status indices and stays there. -/
theorem test_dr_sticks :
    (readAt 0x16#7 State.reset).map State.ptr = some 0x17#7 ∧ (readAt 0x17#7 State.reset).map State.ptr = some 0x17#7 ∧
    (readAt 0x1e#7 State.reset).map State.ptr = some 0x1f#7 ∧ (readAt 0x1f#7 State.reset).map State.ptr = some 0x1f#7 := by decide

/-- A8, A9: the status registers ignore writes; `INT` cannot be set by the host. -/
theorem test_dw_read_only :
    (wrote 0x17#7 0xff#8 State.reset).map State.scsiStatus = some 0x00#8 ∧
    (wrote 0x17#7 0xff#8 State.reset).map State.log = some [.readOnlyWrite 0x17#7 0xff#8] ∧
    (wrote 0x1f#7 0x80#8 State.reset).map State.auxStatus = some 0x00#8 := by decide

/-- A10. -/
theorem test_dw_unknown :
    (wrote 0x20#7 0x55#8 State.reset).map State.log = some [.unknownRegWrite 0x20#7 0x55#8] ∧
    (wrote 0x20#7 0x55#8 State.reset).map State.ptr = some 0x21#7 := by decide

/-! ## Registers (vectors B1 to B6, F1) -/

/-- B1, one write at a time from power-on: the byte `0x80 + i` at index `i`. -/
theorem test_plain_register_writes :
    (wrote 0x00#7 0x80#8 State.reset).map State.ownId = some 0x80#8 ∧
    (wrote 0x01#7 0x81#8 State.reset).map State.control = some 0x81#8 ∧
    (wrote 0x02#7 0x82#8 State.reset).map State.timeoutPeriod = some 0x82#8 ∧
    (wrote 0x03#7 0x83#8 State.reset).map State.totalSectors = some 0x83#8 ∧
    (wrote 0x04#7 0x84#8 State.reset).map State.totalHeads = some 0x84#8 ∧
    (wrote 0x05#7 0x85#8 State.reset).map State.totalCylinders = some 0x8500#16 ∧
    (wrote 0x06#7 0x86#8 State.reset).map State.totalCylinders = some 0x0086#16 ∧
    (wrote 0x07#7 0x87#8 State.reset).map State.logicalAddress = some 0x87000000#32 ∧
    (wrote 0x08#7 0x88#8 State.reset).map State.logicalAddress = some 0x00880000#32 ∧
    (wrote 0x09#7 0x89#8 State.reset).map State.logicalAddress = some 0x00008900#32 ∧
    (wrote 0x0a#7 0x8a#8 State.reset).map State.logicalAddress = some 0x0000008a#32 ∧
    (wrote 0x0b#7 0x8b#8 State.reset).map State.sectorNumber = some 0x8b#8 ∧
    (wrote 0x0c#7 0x8c#8 State.reset).map State.headNumber = some 0x8c#8 ∧
    (wrote 0x0d#7 0x8d#8 State.reset).map State.cylinderNumber = some 0x8d00#16 ∧
    (wrote 0x0e#7 0x8e#8 State.reset).map State.cylinderNumber = some 0x008e#16 ∧
    (wrote 0x0f#7 0x8f#8 State.reset).map State.targetLun = some 0x8f#8 ∧
    (wrote 0x10#7 0x90#8 State.reset).map State.commandPhase = some 0x90#8 ∧
    (wrote 0x11#7 0x91#8 State.reset).map State.syncTransfer = some 0x91#8 ∧
    (wrote 0x12#7 0x92#8 State.reset).map State.transferCount = some 0x920000#24 ∧
    (wrote 0x13#7 0x93#8 State.reset).map State.transferCount = some 0x009300#24 ∧
    (wrote 0x14#7 0x94#8 State.reset).map State.transferCount = some 0x000094#24 ∧
    (wrote 0x15#7 0x95#8 State.reset).map State.destinationId = some 0x95#8 ∧
    (wrote 0x16#7 0x96#8 State.reset).map State.sourceId = some 0x96#8 := by
  decide

/-- B2: the lanes of multi-byte fields read most significant first. -/
theorem test_lane_reads :
    (readAt 0x07#7 { State.reset with logicalAddress := 0x11223344#32 }).map State.result = some (some 0x11#8) ∧
    (readAt 0x0a#7 { State.reset with logicalAddress := 0x11223344#32 }).map State.result = some (some 0x44#8) ∧
    (readAt 0x12#7 { State.reset with transferCount := 0x929394#24 }).map State.result = some (some 0x92#8) ∧
    (readAt 0x13#7 { State.reset with transferCount := 0x929394#24 }).map State.result = some (some 0x93#8) := by decide

/-- B3: one lane replaced, the others kept. -/
theorem test_lane_write_keeps_others :
    (wrote 0x09#7 0xff#8 { State.reset with logicalAddress := 0x11223344#32 }).map State.logicalAddress = some 0x1122ff44#32 := by
  decide

/-- F1: reading the SCSI status returns the code and acknowledges. -/
theorem test_scsi_status_read :
    shows (readAt 0x17#7 { State.reset with scsiStatus := 0x11#8, auxStatus := 0x80#8, irq := true })
      (fun t => t.result == some 0x11#8 && t.auxStatus == 0x00#8 && t.irq == false &&
        t.scsiStatus == 0x11#8) = true := by decide

/-- C7: reading auxiliary status does not pop. -/
theorem test_aux_status_read :
    shows (readAt 0x1f#7 { State.reset with fifo := [0x5a#8], auxStatus := 0x80#8 })
      (fun t => t.result == some 0x81#8 && t.fifo == [0x5a#8]) = true := by decide

/-! ## The byte queue (vectors C1 to C6) -/

/-- C1, C2: pop the head; an empty queue reads 0 and is logged. -/
theorem test_pop :
    shows (readAt 0x19#7 { State.reset with fifo := [0xaa#8, 0xbb#8] })
      (fun t => t.result == some 0xaa#8 && t.fifo == [0xbb#8] && t.ptr == 0x1a#7) = true ∧
    shows (readAt 0x19#7 State.reset)
      (fun t => t.result == some 0x00#8 && t.fifo == [] && t.log == [.fifoUnderflow]) = true := by decide

/-- C3, C4: the 12th byte enters, the 13th is rejected and logged. -/
theorem test_push :
    shows (wrote 0x19#7 0x01#8 { State.reset with fifo := List.replicate 11 0x40#8 })
      (fun t => t.fifo.length == 12 && t.log == []) = true ∧
    shows (wrote 0x19#7 0x77#8 { State.reset with fifo := List.replicate 12 0x40#8 })
      (fun t => t.fifo.length == 12 && t.log == [.fifoOverflow 0x77#8]) = true := by decide

/-! ## Commands (vectors D1 to D9), on the test bus -/

/-- Power-on state with the bus answering as the test bus of 95_test_vectors.md. -/
def bus : State :=
  { State.reset with
    devAnswers := [some ⟨3⟩], lunAnswers := [some ⟨10⟩], reqAnswers := [(⟨1⟩, 36)],
    readAnswers := [(⟨2⟩, 3, [0xde#8, 0xad#8, 0xbe#8])] }

/-- The end of vector D1: target 3 selected, its interrupt pending. -/
def selected : State :=
  { bus with
    ptr := 0x19#7, destinationId := 0x03#8, command := 0x06#8, curDev := some ⟨3⟩, scsiStatus := 0x11#8, auxStatus := 0x80#8,
    irq := true }

/-- The end of vector D9: a polled transfer of four bytes about to be filled. -/
def filling : State :=
  { selected with
    curLun := some ⟨10⟩, transferCount := 4#24, command := 0x20#8, state := .polledWaitingDataOut,
    buf := List.replicate 4 0x00#8, pos := 0, size := 4 }

/-- `filling` with three of the four bytes written: the end of vector E1v. -/
def almostFull : State :=
  { filling with ptr := 0x1c#7, buf := [0x12#8, 0x00#8, 0x00#8, 0x00#8], pos := 3 }

/-- The end of vector E2 with negotiated length 36: the request is out. -/
def executing : State :=
  { almostFull with
    ptr := 0x1d#7, buf := [0x12#8, 0x00#8, 0x00#8, 0x24#8], pos := 4, state := .polledExecuting, curReq := some ⟨1⟩,
    outstanding := [36], issued := [⟨1⟩] }

/-- The end of vector E6: three bytes about to be drained. -/
def draining : State :=
  { selected with
    curLun := some ⟨10⟩, curReq := some ⟨2⟩, transferCount := 3#24, command := 0x20#8, state := .polledWaitingDataIn,
    phase := .dataIn, buf := [0xde#8, 0xad#8, 0xbe#8], pos := 0, size := 3, outstanding := [3], issued := [⟨2⟩, ⟨1⟩],
    readAnswers := [(⟨3⟩, 3, [0x11#8, 0x22#8, 0x33#8])] }

/-- D1: Select of a present target. -/
theorem test_select_present :
    shows (wrote 0x18#7 0x06#8 bus)
      (fun t => t.curDev == some ⟨3⟩ && t.curLun == none && t.scsiStatus == 0x11#8 && t.auxStatus == 0x80#8 &&
        t.irq == true && t.command == 0x06#8 && t.ptr == 0x19#7 && t.state == .idle) = true := by decide

/-- D2: Select of an absent target loses the earlier selection and raises nothing. -/
theorem test_select_absent :
    shows (wrote 0x18#7 0x07#8 { selected with auxStatus := 0x00#8, irq := false, devAnswers := [none] })
      (fun t => t.curDev == none && t.irq == false && t.auxStatus == 0x00#8 && t.scsiStatus == 0x11#8 &&
        t.log == []) = true := by decide

/-- D5: the Reset command drops the bindings and leaves the interrupt pending. -/
theorem test_reset_command :
    shows (wrote 0x18#7 0x00#8 selected)
      (fun t => t.curDev == none && t.curLun == none && t.auxStatus == 0x80#8 && t.scsiStatus == 0x11#8 &&
        t.busTrace == [.reset]) = true := by decide

/-- D3, D4: an accepted placeholder, and an unsupported opcode. -/
theorem test_placeholder_and_unsupported :
    shows (wrote 0x18#7 0x18#8 State.reset)
      (fun t => t.command == 0x18#8 && t.ptr == 0x19#7 && t.log == []) = true ∧
    shows (wrote 0x18#7 0xff#8 State.reset)
      (fun t => t.command == 0xff#8 && t.log == [.unsupportedCommand 0xff#8]) = true := by decide

/-- D6, D7: Transfer-Info without a device, and without the unit. -/
theorem test_transfer_info_no_unit :
    shows (wrote 0x18#7 0x20#8 State.reset)
      (fun t => t.state == .idle && t.log == [.lunNotFound 0x00#8]) = true ∧
    shows (wrote 0x18#7 0x20#8 { selected with targetLun := 0x04#8, lunAnswers := [none] })
      (fun t => t.state == .idle && t.curLun == none && t.log == [.lunNotFound 0x04#8]) = true := by decide

/-- D8, D9: a mode that is not polled, and a polled DataOut. -/
theorem test_transfer_info_modes :
    shows (wrote 0x18#7 0x20#8 { selected with control := 0x20#8 })
      (fun t => t.state == .idle && t.curLun == some ⟨10⟩ && t.log == [.unsupportedDmaMode 1#3]) = true ∧
    shows (wrote 0x18#7 0x20#8 { selected with control := 0x1f#8, transferCount := 4#24 })
      (fun t => t.state == .polledWaitingDataOut && t.pos == 0 && t.size == 4 && t.buf.length == 4 &&
        t.curLun == some ⟨10⟩ && t.ptr == 0x19#7 && t.log == []) = true := by decide

/-- E6: a polled DataIn takes the bytes the bus hands back. -/
theorem test_transfer_info_data_in :
    shows (wrote 0x18#7 0x20#8 { selected with phase := .dataIn, transferCount := 3#24 })
      (fun t => t.state == .polledWaitingDataIn && t.buf == [0xde#8, 0xad#8, 0xbe#8] && t.pos == 0 && t.size == 3 &&
        t.curReq == some ⟨2⟩ && t.outstanding == [3]) = true := by decide

/-! ## The transfer buffer and the events (vectors E1v to E17, H1) -/

/-- E1v, E2: a byte is appended; the fourth submits and raises nothing. -/
theorem test_intercepted_write :
    shows (did (.dw 0x12#8) filling)
      (fun t => t.buf == [0x12#8, 0x00#8, 0x00#8, 0x00#8] && t.pos == 1 && t.state == .polledWaitingDataOut &&
        t.ptr == 0x1a#7) = true ∧
    shows (did (.dw 0x24#8) almostFull)
      (fun t => t.state == .polledExecuting && t.pos == 4 && t.curReq == some ⟨1⟩ && t.ptr == 0x1d#7 &&
        t.outstanding == [36] &&
        t.busTrace == [.enqueueRequest (some ⟨10⟩) [0x12#8, 0x00#8, 0x00#8, 0x24#8] 4 ⟨1⟩ 36]) = true := by decide

/-- E7, E12: an intercepted read returns a buffer byte, at the status index too, and acknowledges nothing. -/
theorem test_intercepted_read :
    shows (readAt 0x17#7 draining)
      (fun t => t.result == some 0xde#8 && t.pos == 1 && t.ptr == 0x17#7 && t.auxStatus == 0x80#8 &&
        t.state == .polledWaitingDataIn) = true := by decide

/-- E8, E9: past the size both sides fault. -/
theorem test_out_of_range :
    faultOf (step { draining with pos := 3, script := [.dr] }) = some .xferOutOfRange ∧
    faultOf (step { filling with buf := [], size := 0, script := [.dw 0x00#8] }) = some .xferOutOfRange := by decide

/-- E13, E14: the other direction is not intercepted. -/
theorem test_not_intercepted :
    shows (readAt 0x15#7 filling)
      (fun t => t.result == some 0x03#8 && t.pos == 0 && t.ptr == 0x16#7) = true ∧
    shows (wrote 0x00#7 0x07#8 draining)
      (fun t => t.ownId == 0x07#8 && t.pos == 0) = true := by decide

/-- E3, E4, E5: a completion by the sign of its length. -/
theorem test_complete :
    shows (did (.complete 36) executing)
      (fun t => t.state == .completeDataIn && t.phase == .dataIn && t.scsiStatus == 0x19#8 && t.irq == true &&
        t.outstanding == []) = true ∧
    shows (did (.complete (-5)) { executing with outstanding := [-5, 0] })
      (fun t => t.state == .completeDataOut && t.phase == .dataOut && t.scsiStatus == 0x18#8 &&
        t.outstanding == [0]) = true := by decide

/-- E11: a completion after device reset is stray. R300: one not outstanding is no step. -/
theorem test_complete_stray :
    shows (did (.complete 36) { executing with state := .idle })
      (fun t => t.state == .idle && t.log == [.strayCompletion 36] && t.outstanding == []) = true ∧
    refusalOf (step { executing with script := [.complete 0] }) = some (.notOutstanding 0) := by decide

/-- E17: a pending transfer is superseded. -/
theorem test_supersede :
    shows (wrote 0x18#7 0x20#8 { draining with pos := 3 })
      (fun t => t.pos == 0 && t.buf == [0x11#8, 0x22#8, 0x33#8] && t.curReq == some ⟨3⟩ &&
        t.log == [.transferSuperseded] && t.outstanding == [3, 3]) = true := by decide

/-- R292, R295: a handle the bus has not returned is kept, one that it has gives way to a fresh one. -/
theorem test_fresh_handles :
    draining.nextRead.1 = ⟨3⟩ ∧ ({ draining with reqAnswers := [(⟨7⟩, 0)] } : State).nextRequest.1 = ⟨7⟩ ∧
    ({ draining with reqAnswers := [(⟨1⟩, 0)] } : State).nextRequest.1 ∉ draining.issued := by decide

/-- H1. -/
theorem test_device_reset :
    shows (did .reset { draining with pos := 1, fifo := [0x5a#8], scsiStatus := 0x19#8 })
      (fun t => t.state == .idle && t.phase == .dataOut && t.curDev == none && t.curLun == none && t.curReq == none &&
        t.pos == 1 && t.fifo == [0x5a#8] && t.scsiStatus == 0x19#8 && t.auxStatus == 0x80#8 &&
        t.outstanding == [3]) = true := by decide

/-! ## Witnesses: for every statement with hypotheses, a state and operands that meet them -/

/-- The premises that name the default numbers (R7): SampleWordsDecode, DecodeOfEncode, SweepSticksAtScsiStatus,
WriteSweepVisitsRegistersInOrder. -/
theorem witness_defaults : DefaultIndices ∧ DefaultOpcodes := by decide

/-- DecodeOfEncode. -/
theorem witness_DecodeOfEncode :
    (Instr.dw 0xff#8).wellFormed = true ∧ (Instr.idxUnknown20_3F 0x3f#7 .read).wellFormed = true ∧
    (Instr.idxUnknown40_7F 0x40#7 (.write 0x55#8)).wellFormed = true ∧ (Instr.opUnsupported 0x21#8).wellFormed = true := by decide

/-- OtherAccessesAreRefused: its two clauses. -/
theorem witness_OtherAccessesAreRefused :
    refusalOf (step { State.reset with script := [.host ⟨false, 0, 2, 0⟩] }) = some .badAccess ∧
    refusalOf (step { State.reset with script := [.host ⟨true, 2, 1, 0⟩] }) = some .badAccess := by decide

/-- StepRunsDecodedLine: one line of each kind. -/
theorem witness_StepRunsDecodedLine :
    decodeLine .ar = .ok .ar ∧ decodeLine .dr = .ok .dr ∧ decodeLine (.aw 0xff#8) = .ok (.aw 0xff#8) ∧
    decodeLine (.dw 0x00#8) = .ok (.dw 0x00#8) ∧ decodeLine .reset = .ok .deviceReset ∧
    decodeLine (.complete 0) = .ok (.busComplete 0) := ⟨rfl, rfl, rfl, rfl, rfl, rfl⟩

/-- NoLineNoChange. -/
theorem witness_NoLineNoChange : State.reset.script = [] := rfl

/-- AuxiliaryStatusByteLayout, with `INT` clear and set. -/
theorem witness_AuxiliaryStatusByteLayout :
    State.reset.auxStatus &&& 0x7f#8 = 0x00#8 ∧ selected.auxStatus &&& 0x7f#8 = 0x00#8 := by decide

/-- DataPortReadRunsRegisterRead. -/
theorem witness_DataPortReadRunsRegisterRead : filling.state ≠ .polledWaitingDataIn := by decide

/-- DataPortWriteRunsRegisterWrite. -/
theorem witness_DataPortWriteRunsRegisterWrite : draining.state ≠ .polledWaitingDataOut := by decide

/-- DataPortAccessAdvancesPointer: the two sticky indices, the wrap, and an intercepted access. -/
theorem witness_DataPortAccessAdvancesPointer :
    (nextOf (exec .dr { State.reset with ptr := 0x17#7 })).map State.ptr = some 0x17#7 ∧
    (nextOf (exec (.dw 0x00#8) { State.reset with ptr := 0x1f#7 })).map State.ptr = some 0x1f#7 ∧
    (nextOf (exec .dr { State.reset with ptr := 0x7f#7 })).map State.ptr = some 0x00#7 ∧
    (nextOf (exec (.dw 0x00#8) filling)).map State.ptr = some 0x1a#7 := by decide

/-- SweepSticksAtScsiStatus: an access at each of the two indices, and the sweep. -/
theorem witness_SweepSticksAtScsiStatus :
    (nextOf (exec (.dw 0xee#8) { State.reset with ptr := 0x17#7 })).isSome = true ∧
    (nextOf (exec .dr { draining with ptr := 0x1f#7 })).isSome = true ∧
    ({ selected with script := [.aw 0x15#8, .dr, .dr, .dr, .dr] } : State).state ≠ .polledWaitingDataIn ∧
    ({ selected with script := [.aw 0x15#8, .dr, .dr, .dr, .dr] } : State).script =
      [.aw (Config.idxDestinationId.setWidth 8), .dr, .dr, .dr, .dr] := by decide

/-- WriteSweepVisitsRegistersInOrder: example E1, and the longest sweep from index 0. -/
theorem witness_WriteSweepVisitsRegistersInOrder :
    State.reset.state ≠ .polledWaitingDataOut ∧
    ({ State.reset with ptr := 0x07#7 } : State).ptr.toNat + [0x11#8, 0x22#8, 0x33#8, 0x44#8].length ≤
      Config.idxScsiStatus.toNat ∧
    State.reset.ptr.toNat + (List.replicate 23 0x80#8).length ≤ Config.idxScsiStatus.toNat := by decide

/-- MultiByteFieldsAreTheirLanes: every lane is a stored byte. -/
theorem witness_MultiByteFieldsAreTheirLanes :
    laneRegisters.all (fun r => (({ State.reset with logicalAddress := 0x11223344#32 } : State).x r.2).isSome) = true ∧
    ({ State.reset with logicalAddress := 0x11223344#32 } : State).x Config.idxLogAddrMsb = some 0x11#8 := by decide

/-- ByteRegistersStoreAndReadBack, LaneRegistersStoreAndReadBack and the other statements over a listed group: the groups by
their sizes, the registers 23 together (R30), the opcodes 24 (R200). -/
theorem witness_groups :
    byteRegisters.length = 12 ∧ laneRegisters.length = 11 ∧ unknownRegisters.length = 5 ∧ unknownRanges.length = 3 ∧
    acceptedNoOps.length = 18 ∧ selects.length = 4 ∧ selectOpcodes.length = 4 ∧ supportedOpcodes.length = 24 ∧
    definedIndices.length = 27 ∧ definedIndices.Nodup := by decide

/-- StatusReadThroughPortAcknowledges: its two clauses. -/
theorem witness_StatusReadThroughPortAcknowledges :
    ({ selected with ptr := 0x17#7 } : State).ptr = Config.idxScsiStatus ∧ selected.state ≠ .polledWaitingDataIn ∧
    draining.state = .polledWaitingDataIn ∧
    (nextOf (exec .dr { draining with ptr := Config.idxScsiStatus })).isSome = true := by decide

/-- UnknownIndicesReadZeroIgnoreWrites: indices next to defined ones, and the last. -/
theorem witness_UnknownIndicesReadZeroIgnoreWrites :
    ({ State.reset with ptr := 0x1a#7 } : State).ptr ∉ definedIndices ∧ 0x1e#7 ∉ definedIndices ∧ 0x20#7 ∉ definedIndices ∧
    0x7f#7 ∉ definedIndices ∧ State.reset.state ≠ .polledWaitingDataIn ∧ State.reset.state ≠ .polledWaitingDataOut := by decide

/-- DataRegisterWritePushes: its two clauses at the boundary. -/
theorem witness_DataRegisterWritePushes :
    ({ State.reset with fifo := List.replicate 11 0x40#8 } : State).fifo.length < 12 ∧
    12 ≤ ({ State.reset with fifo := List.replicate 12 0x40#8 } : State).fifo.length := by decide

/-- DataRegisterReadPops: its two clauses. -/
theorem witness_DataRegisterReadPops :
    ({ State.reset with fifo := [0xaa#8] } : State).fifo = 0xaa#8 :: [] ∧ State.reset.fifo = [] := by decide

/-- QueueKeepsOrder: vector C1, and twelve bytes with the last one fetched. -/
theorem witness_QueueKeepsOrder :
    State.reset.fifo = [] ∧ [0xaa#8, 0xbb#8].length ≤ 12 ∧ 1 < [0xaa#8, 0xbb#8].length ∧
    (List.replicate 12 0x40#8).length ≤ 12 ∧ 11 < (List.replicate 12 0x40#8).length ∧
    State.reset.state ≠ .polledWaitingDataOut ∧ State.reset.state ≠ .polledWaitingDataIn := by decide

/-- UnsupportedOpcodesAreLogged: a named and an unnamed opcode. -/
theorem witness_UnsupportedOpcodesAreLogged :
    0x01#8 ∉ supportedOpcodes ∧ 0x19#8 ∉ supportedOpcodes ∧ 0xff#8 ∉ supportedOpcodes := by decide

/-- SelectBindsPresentTarget. -/
theorem witness_SelectBindsPresentTarget : bus.nextDevice = some ⟨3⟩ := rfl

/-- SelectOfAbsentTargetDropsBindings, SelectionFailureIsSilent. -/
theorem witness_SelectOfAbsentTarget : ({ selected with devAnswers := [none] } : State).nextDevice = none := rfl

/-- TransferInfoWithoutUnit: its two clauses. -/
theorem witness_TransferInfoWithoutUnit :
    State.reset.curDev = none ∧ selected.curDev = some ⟨3⟩ ∧
    ({ selected with lunAnswers := [none] } : State).nextLun = none := ⟨rfl, rfl, rfl⟩

/-- TransferInfoUnsupportedMode. -/
theorem witness_TransferInfoUnsupportedMode :
    ({ selected with control := 0x20#8 } : State).curDev = some ⟨3⟩ ∧
    ({ selected with control := 0x20#8 } : State).nextLun = some ⟨10⟩ ∧
    ({ selected with control := 0x20#8 } : State).control.extractLsb' 5 3 ≠ Config.dmaModePolled :=
  ⟨rfl, rfl, by decide⟩

/-- TransferInfoStartsDataOut, from a fresh selection and over a pending transfer. -/
theorem witness_TransferInfoStartsDataOut :
    selected.curDev = some ⟨3⟩ ∧ selected.nextLun = some ⟨10⟩ ∧ selected.control.extractLsb' 5 3 = Config.dmaModePolled ∧
    selected.phase = .dataOut ∧ executing.nextLun = some ⟨10⟩ ∧ executing.phase = .dataOut :=
  ⟨rfl, rfl, by decide, rfl, rfl, rfl⟩

/-- TransferInfoStartsDataIn. -/
theorem witness_TransferInfoStartsDataIn :
    draining.curDev = some ⟨3⟩ ∧ draining.nextLun = some ⟨10⟩ ∧ draining.control.extractLsb' 5 3 = Config.dmaModePolled ∧
    draining.phase = .dataIn ∧ ({ draining with busCalls := draining.busCalls + 1 } : State).nextRead =
      (⟨3⟩, 3, [0x11#8, 0x22#8, 0x33#8]) :=
  ⟨rfl, rfl, by decide, rfl, rfl⟩

/-- CommandsLeaveRegisterFileAlone. -/
theorem witness_CommandsLeaveRegisterFileAlone :
    (nextOf (exec (decode (.cmd 0x20#8)) selected)).isSome = true ∧
    (nextOf (exec (decode (.cmd 0x06#8)) bus)).isSome = true := by decide

/-- InterceptedWriteAppends: the first byte, and the last that does not fill. -/
theorem witness_InterceptedWriteAppends :
    filling.state = .polledWaitingDataOut ∧ filling.pos + 1 < filling.size ∧
    ({ almostFull with pos := 2 } : State).pos + 1 < almostFull.size := by decide

/-- InterceptedWriteSubmits. -/
theorem witness_InterceptedWriteSubmits :
    almostFull.state = .polledWaitingDataOut ∧ almostFull.pos + 1 = almostFull.size ∧
    almostFull.buf.length = almostFull.size ∧ almostFull.nextRequest = (⟨1⟩, 36) := ⟨rfl, rfl, rfl, rfl⟩

/-- InterceptedWriteOutOfRangeFaults. -/
theorem witness_InterceptedWriteOutOfRangeFaults :
    ({ filling with buf := [], size := 0 } : State).state = .polledWaitingDataOut ∧
    ({ filling with buf := [], size := 0 } : State).size ≤ ({ filling with buf := [], size := 0 } : State).pos := by decide

/-- InterceptedReadFetchesOrFaults: its two clauses, at the last byte and just past it. -/
theorem witness_InterceptedReadFetchesOrFaults :
    draining.state = .polledWaitingDataIn ∧ ({ draining with pos := 2 } : State).pos < draining.size ∧
    draining.buf[({ draining with pos := 2 } : State).pos]? = some 0xbe#8 ∧
    ({ draining with pos := 3 } : State).state = .polledWaitingDataIn ∧
    ({ draining with pos := 3 } : State).size ≤ ({ draining with pos := 3 } : State).pos := by decide

/-- PolledDataOutSubmitsBytesWritten, with the source's property P5. -/
theorem witness_PolledDataOutSubmitsBytesWritten :
    [0x12#8, 0x00#8, 0x00#8, 0x24#8] ≠ [] ∧ filling.state = .polledWaitingDataOut ∧ filling.pos = 0 ∧
    filling.size = [0x12#8, 0x00#8, 0x00#8, 0x24#8].length ∧ filling.buf.length = filling.size ∧
    filling.nextRequest = (⟨1⟩, 36) := ⟨by decide, rfl, rfl, rfl, rfl, rfl⟩

/-- PolledDataInReturnsBytesThenFaults, with the source's property P6. -/
theorem witness_PolledDataInReturnsBytesThenFaults :
    draining.state = .polledWaitingDataIn ∧ draining.pos = 0 ∧ draining.buf.length = draining.size ∧ 2 < draining.size := by decide

/-- CompletionEndsExecuting: its two clauses, the second at 0. -/
theorem witness_CompletionEndsExecuting :
    executing.state = .polledExecuting ∧ (36 : Int) ∈ executing.outstanding ∧
    (0 : Int) ∈ ({ executing with outstanding := [0] } : State).outstanding := by decide

/-- StrayCompletionIsLogged. -/
theorem witness_StrayCompletionIsLogged :
    draining.state ≠ .polledExecuting ∧ (3 : Int) ∈ draining.outstanding := by decide

/-- CompletionNotOutstandingIsRefused. -/
theorem witness_CompletionNotOutstandingIsRefused : (3 : Int) ∉ executing.outstanding := by decide

/-- PowerOnState: an index with storage. -/
theorem witness_PowerOnState : State.reset.x 0x00#7 = some 0x00#8 := by decide

/-- EveryStepKeepsInvariants, FaultOnlyPastTransferSize: the invariants hold while a buffer is filled and drained. -/
theorem witness_Inv : filling.Inv ∧ ({ draining with pos := 3 } : State).Inv ∧ ({ filling with buf := [], size := 0 } : State).Inv := by
  refine ⟨?_, ?_, ?_⟩ <;> constructor <;> decide

/-- EveryStepKeepsAwaitInvariants, PhaseLatchesUntilDeviceReset: the invariants hold while waiting and in phase DataIn. -/
theorem witness_AwaitInv : executing.AwaitInv ∧ draining.AwaitInv := by
  refine ⟨?_, ?_⟩ <;> constructor <;> decide

/-- EveryStepKeepsInvariants, EveryStepKeepsAwaitInvariants: steps that complete from such states. -/
theorem witness_step_next :
    (did (.dw 0x12#8) filling).isSome = true ∧ (did (.complete 36) executing).isSome = true ∧
    (did .dr draining).isSome = true := by decide

/-- StateChangesOnlyByTable: a change of each of the four kinds. -/
theorem witness_StateChangesOnlyByTable :
    (did .reset filling).map State.state = some .idle ∧
    (wrote 0x18#7 0x20#8 selected).map State.state = some .polledWaitingDataOut ∧
    (did (.dw 0x24#8) almostFull).map State.state = some .polledExecuting ∧
    (did (.complete 36) executing).map State.state = some .completeDataIn := by decide

/-- InterruptHasThreeCauses, the first two clauses: a Select about to be written, a completion about to arrive. -/
theorem witness_InterruptHasThreeCauses_raise :
    ({ bus with ptr := 0x18#7, script := [.dw 0x06#8] } : State).commandWrite 0x06#8 ∧ 0x06#8 ∈ selectOpcodes ∧
    bus.nextDevice ≠ none ∧ ({ executing with script := [.complete 36] } : State).nextIs (.busComplete 36) ∧
    36 ∈ executing.outstanding ∧ executing.state = .polledExecuting :=
  ⟨⟨⟨_, _, rfl, rfl⟩, by decide, rfl⟩, by decide, by decide, ⟨_, _, rfl, rfl⟩, by decide, rfl⟩

/-- InterruptHasThreeCauses: the line rises, or the code changes, by each cause. -/
theorem witness_InterruptHasThreeCauses :
    (wrote 0x18#7 0x06#8 bus).map State.irq = some true ∧ bus.irq = false ∧
    (did (.complete 36) executing).map State.scsiStatus = some 0x19#8 ∧
    (did (.complete 0) { executing with outstanding := [0] }).map State.scsiStatus = some 0x18#8 ∧
    executing.scsiStatus = 0x11#8 := by decide

/-- InterruptClearedOnlyByStatusRead. -/
theorem witness_InterruptClearedOnlyByStatusRead :
    selected.auxStatus.getLsbD 7 = true ∧
    (readAt 0x17#7 selected).map (fun t => t.auxStatus.getLsbD 7) = some false := by decide

/-- PhaseLatchesUntilDeviceReset. -/
theorem witness_PhaseLatchesUntilDeviceReset :
    draining.phase = .dataIn ∧ Line.reset ∉ ({ draining with script := [.dr] } : State).script ∧
    (did .dr draining).map State.phase = some .dataIn := by decide

/-- RefusalOnlyOutsideInterface: both refusals occur. -/
theorem witness_RefusalOnlyOutsideInterface :
    refusalOf (step { State.reset with script := [.host ⟨false, 1, 4, 0⟩] }) = some .badAccess ∧
    refusalOf (step { State.reset with script := [.complete 1] }) = some (.notOutstanding 1) := by decide

/-- TracesAreInvisible: a step that completes, one that faults and one that is refused. -/
theorem witness_TracesAreInvisible :
    (did .dr draining).isSome = true ∧ (faultOf (step { draining with pos := 3, script := [.dr] })).isSome = true ∧
    (refusalOf (step { State.reset with script := [.complete 1] })).isSome = true := by decide

end Sys2Proof.Tests
end

/-! SUPPORT and PROOFS, family 30_encoding: the auxiliary status byte bit by bit (R92), the multi-byte fields as their lanes (R96). -/

namespace Sys2Proof.Machine

/-! ## The multi-byte fields and their lanes (R23, R96) -/

/-- The least significant lane of a field, split off. -/
theorem extractLsb'_append_getLane_zero {n : Nat} (f : BitVec (n + 8)) : f.extractLsb' 8 n ++ getLane f 0 = f := by
  apply BitVec.eq_of_getLsbD_eq
  intro i (hi : i < n + 8)
  simp only [BitVec.getLsbD_append, getLane_eq, BitVec.getLsbD_extractLsb', Config.regBits]
  by_cases h : i < 8
  · simp [h]
  · have hn : i - 8 < n := by omega
    have hi8 : 8 + (i - 8) = i := by omega
    simp [h, hn, hi8]

/-- Above the least significant lane the lanes keep their order, each one place lower. -/
theorem getLane_extractLsb'_eight {m n : Nat} (f : BitVec m) (k : Nat) (h : 8 * k + 8 ≤ n) :
    getLane (f.extractLsb' 8 n) k = getLane f (k + 1) := by
  apply BitVec.eq_of_getLsbD_eq
  intro i (hi : i < 8)
  have hn : 8 * k + i < n := by omega
  have hshift : 8 + (8 * k + i) = 8 * (k + 1) + i := by omega
  simp [getLane_eq, hi, hn, hshift]

/-- A field of two lanes, the most significant first. -/
theorem eq_append_two_lanes (f : BitVec 16) : f = getLane f 1 ++ getLane f 0 :=
  (extractLsb'_append_getLane_zero f).symm

/-- A field of three lanes, the most significant first. -/
theorem eq_append_three_lanes (f : BitVec 24) : f = getLane f 2 ++ getLane f 1 ++ getLane f 0 := by
  have hupper := eq_append_two_lanes (f.extractLsb' 8 16)
  rw [getLane_extractLsb'_eight f 1 (by decide), getLane_extractLsb'_eight f 0 (by decide)] at hupper
  rw [← hupper, extractLsb'_append_getLane_zero f]

/-- A field of four lanes, the most significant first. -/
theorem eq_append_four_lanes (f : BitVec 32) : f = getLane f 3 ++ getLane f 2 ++ getLane f 1 ++ getLane f 0 := by
  have hupper := eq_append_three_lanes (f.extractLsb' 8 24)
  rw [getLane_extractLsb'_eight f 2 (by decide), getLane_extractLsb'_eight f 1 (by decide),
    getLane_extractLsb'_eight f 0 (by decide)] at hupper
  rw [← hupper, extractLsb'_append_getLane_zero f]

/-- The stored bytes at the four indices of the logical address (R132 to R135). -/
@[simp] theorem State.x_logicalAddress (s : State) :
    s.x Config.idxLogAddrMsb = some (getLane s.logicalAddress 3) ∧
    s.x Config.idxLogAddr2nd = some (getLane s.logicalAddress 2) ∧
    s.x Config.idxLogAddr3rd = some (getLane s.logicalAddress 1) ∧
    s.x Config.idxLogAddrLsb = some (getLane s.logicalAddress 0) :=
  ⟨rfl, rfl, rfl, rfl⟩

/-- The stored bytes at the three indices of the transfer count (R143 to R145). -/
@[simp] theorem State.x_transferCount (s : State) :
    s.x Config.idxTcMsb = some (getLane s.transferCount 2) ∧
    s.x Config.idxTcMid = some (getLane s.transferCount 1) ∧
    s.x Config.idxTcLsb = some (getLane s.transferCount 0) :=
  ⟨rfl, rfl, rfl⟩

/-- The stored bytes at the two indices of the total cylinders (R130, R131). -/
@[simp] theorem State.x_totalCylinders (s : State) :
    s.x Config.idxTotalCylMsb = some (getLane s.totalCylinders 1) ∧
    s.x Config.idxTotalCylLsb = some (getLane s.totalCylinders 0) :=
  ⟨rfl, rfl⟩

/-- The stored bytes at the two indices of the cylinder number (R138, R139). -/
@[simp] theorem State.x_cylinderNumber (s : State) :
    s.x Config.idxCylNumberMsb = some (getLane s.cylinderNumber 1) ∧
    s.x Config.idxCylNumberLsb = some (getLane s.cylinderNumber 0) :=
  ⟨rfl, rfl⟩

/-! ## The auxiliary status byte (R92, R183) -/

/-- The data-buffer-ready flag in numbers: fewer than `FIFO_CAP = 12` bytes are queued (R6, R183). -/
theorem State.dbr_iff (s : State) : s.dbr = true ↔ s.fifo.length < 12 := decide_eq_true_iff

/-- Bit 0 of the byte the host reads is the stored bit or the data-buffer-ready flag. -/
theorem State.getLsbD_zero_auxByte (s : State) : s.auxByte.getLsbD 0 = (s.auxStatus.getLsbD 0 || s.dbr) := by
  cases h : s.dbr <;> simp [State.auxByte, h]

/-- Every bit but bit 0 of the byte the host reads is the stored bit. -/
theorem State.getLsbD_succ_auxByte (s : State) (i : Nat) : s.auxByte.getLsbD (i + 1) = s.auxStatus.getLsbD (i + 1) := by
  cases h : s.dbr <;> simp [State.auxByte, h]

/-- The bits between `INT` and `DBR` of the byte the host reads are the stored ones. -/
theorem State.extractLsb'_auxByte (s : State) : s.auxByte.extractLsb' 1 6 = s.auxStatus.extractLsb' 1 6 := by
  apply BitVec.eq_of_getLsbD_eq
  intro i hi
  simp only [BitVec.getLsbD_extractLsb', Nat.add_comm 1 i, State.getLsbD_succ_auxByte]

/-- A stored auxiliary status with its low seven bits clear is `INT` clear or `INT` set (R38 (e)). -/
theorem eq_zero_or_auxInt_of_low_clear {aux : Byte} (h : aux &&& 0x7f#8 = 0x00#8) : aux = 0x00#8 ∨ aux = 0x80#8 := by
  revert aux; decide

/-- The four values of the byte the host reads: `INT` or not, `DBR` or not. -/
theorem State.auxByte_mem_of_low_clear {s : State} (h : s.auxStatus &&& 0x7f#8 = 0x00#8) :
    s.auxByte ∈ [0x00#8, 0x01#8, 0x80#8, 0x81#8] := by
  unfold State.auxByte
  rcases eq_zero_or_auxInt_of_low_clear h with haux | haux <;> rw [haux] <;> cases s.dbr <;> decide

/-- Both reads that R92 names answer with the auxiliary status byte. -/
theorem exec_auxRead {i : Instr} (hi : i ∈ [Instr.ar, .idxAuxStatus .read]) (s : State) :
    exec i s = .next (s.answer s.auxByte) := by
  simp only [List.mem_cons, List.not_mem_nil, or_false] at hi
  rcases hi with rfl | rfl <;> rfl

/-! ## The obligations -/

/-- Settles O9, from the bits of the byte that both reads answer with. -/
theorem auxiliaryStatusByteLayout : Obligations.AuxiliaryStatusByteLayout := by
  intro i hi s hlow
  obtain ⟨hbit0, hmiddle⟩ : s.auxStatus.getLsbD 0 = false ∧ s.auxStatus.extractLsb' 1 6 = 0#6 := by
    rcases eq_zero_or_auxInt_of_low_clear hlow with haux | haux <;> rw [haux] <;> decide
  refine ⟨s.answer s.auxByte, s.auxByte, exec_auxRead hi s, rfl, s.getLsbD_succ_auxByte 6, s.extractLsb'_auxByte,
    s.extractLsb'_auxByte.trans hmiddle, ?_, State.auxByte_mem_of_low_clear hlow⟩
  rw [s.getLsbD_zero_auxByte, hbit0, Bool.false_or, s.dbr_iff]

/-- Settles O16: each index holds its lane, and each field is the concatenation of its lanes. -/
theorem multiByteFieldsAreTheirLanes : Obligations.MultiByteFieldsAreTheirLanes := by
  intro s a b c d e f g h i j k ha hb hc hd he hf hg hh hi hj hk
  simp only [State.x_logicalAddress, State.x_transferCount, State.x_totalCylinders, State.x_cylinderNumber,
    Option.some.injEq] at ha hb hc hd he hf hg hh hi hj hk
  subst ha hb hc hd he hf hg hh hi hj hk
  exact ⟨eq_append_four_lanes _, eq_append_three_lanes _, eq_append_two_lanes _, eq_append_two_lanes _⟩

end Sys2Proof.Machine

/-! SUPPORT and PROOFS, family 41_byte_queue: the push through the `IDX_DATA` window (R181). -/

namespace Sys2Proof.Machine

/-- A write at the data index is a push on the byte queue (R150), and it always completes. -/
theorem exec_idxData_write (b : Byte) (s : State) : exec (.idxData (.write b)) s = .next (s.fifoPush b) := rfl

/-- Settles O24: the two clauses are the two cases of a push, which exclude each other. -/
theorem dataRegisterWritePushes : Obligations.DataRegisterWritePushes := by
  intro s b
  rw [exec_idxData_write]
  rcases fifoPush_cases b s with ⟨hroom, happended⟩ | ⟨hfull, hrejected⟩
  · exact ⟨fun _ => congrArg _ happended, fun hfull => absurd hroom (Nat.not_lt.mpr hfull)⟩
  · exact ⟨fun hroom => absurd hroom (Nat.not_lt.mpr hfull), fun _ => congrArg _ hrejected⟩

end Sys2Proof.Machine

/-! SUPPORT and PROOFS, family 42_command_processor: the unsupported opcodes (R233). -/

namespace Sys2Proof.Machine

/-- A write at the command index stores the opcode, then runs it (R149). -/
theorem exec_idxCommand_write (op : Byte) (s : State) :
    exec (.idxCommand (.write op)) s = runCommand op { s with command := op } := rfl

/-- The rows of the opcode map outside the 24 supported opcodes: `ABORT`, `SET_IDI` and the catch-all. -/
theorem unsupportedRow_cases {r : CommandRow} (h : r.opcode ∉ supportedOpcodes) :
    r = .abort ∨ r = .setIdi ∨ ∃ op, r = .unsupported op := by
  cases r
  case abort => exact .inl rfl
  case setIdi => exact .inr (.inl rfl)
  case unsupported op => exact .inr (.inr ⟨op, rfl⟩)
  all_goals exact absurd (by decide) h

/-- The instruction of a row outside the supported opcodes logs the row's opcode (R233). -/
theorem exec_instr_of_unsupported {r : CommandRow} (h : r.opcode ∉ supportedOpcodes) (s : State) :
    exec r.instr s = .next (s.logEvent (.unsupportedCommand r.opcode)) := by
  obtain rfl | rfl | ⟨op, rfl⟩ := unsupportedRow_cases h
  · rfl
  · rfl
  · rfl

/-- The command of an unsupported opcode logs that opcode, whichever row it decodes to. -/
theorem runCommand_of_unsupported {op : Byte} (h : op ∉ supportedOpcodes) (s : State) :
    runCommand op s = .next (s.logEvent (.unsupportedCommand op)) := by
  have hop : (decodeCommand op).opcode = op := opcode_decodeCommand op
  have hrow : (decodeCommand op).opcode ∉ supportedOpcodes := hop.symm ▸ h
  calc runCommand op s
      = exec (decodeCommand op).instr s := (exec_cmd op s).symm
    _ = .next (s.logEvent (.unsupportedCommand (decodeCommand op).opcode)) := exec_instr_of_unsupported hrow s
    _ = .next (s.logEvent (.unsupportedCommand op)) := by rw [hop]

/-- Settles O29: the command and the command register's write both run the opcode, and the three rows log by definition. -/
theorem unsupportedOpcodesAreLogged : Obligations.UnsupportedOpcodesAreLogged := by
  refine ⟨fun op hop s => ⟨?_, ?_⟩, fun s => ⟨rfl, rfl⟩, fun op s => rfl⟩
  · exact (exec_cmd op s).trans (runCommand_of_unsupported hop s)
  · exact (exec_idxCommand_write op s).trans (runCommand_of_unsupported hop _)

end Sys2Proof.Machine

/-! SUPPORT and PROOFS, family 60_exceptions: the three causes of the interrupt (R320), its acknowledge (R323), the silent
selection failure (R314). -/

namespace Sys2Proof.Machine

/-! ## Raising the interrupt -/

/-- Between `s` and `t` the interrupt is raised: the line goes high, or the code changes (R320, R322). -/
def Raises (s t : State) : Prop := (s.irq = false ∧ t.irq = true) ∨ t.scsiStatus ≠ s.scsiStatus

theorem not_raises_of_eq {s t : State} (hirq : t.irq = s.irq) (hcode : t.scsiStatus = s.scsiStatus) : ¬Raises s t := by
  simp [Raises, hirq, hcode]

theorem not_raises_of_low {s t : State} (hlow : t.irq = false) (hcode : t.scsiStatus = s.scsiStatus) : ¬Raises s t := by
  simp [Raises, hlow, hcode]

/-! ## The commands -/

/-- Each Select command runs `CmdSelect()` (R224 to R227). -/
theorem exec_select {i : Instr} (hi : i ∈ selects) (s : State) : exec i s = .next s.cmdSelect := by
  simp only [selects, List.mem_cons, List.not_mem_nil, or_false] at hi
  obtain rfl | rfl | rfl | rfl := hi <;> rfl

/-- The opcode of a Select command runs `CmdSelect()`. -/
theorem runCommand_select {op : Byte} (hop : op ∈ selectOpcodes) (s : State) : runCommand op s = .next s.cmdSelect := by
  simp only [selectOpcodes, List.mem_cons, List.not_mem_nil, or_false] at hop
  obtain rfl | rfl | rfl | rfl := hop <;> rfl

/-- A Select that finds its target raises the interrupt with the selection-complete code (R223). -/
theorem cmdSelect_present {s : State} (h : s.nextDevice ≠ none) :
    s.cmdSelect.irq = true ∧ s.cmdSelect.scsiStatus = Config.stSelectComplete := by
  rcases cmdSelect_cases s with ⟨d, -, he⟩ | ⟨hnone, -⟩
  · rw [he]; exact ⟨rfl, rfl⟩
  · exact absurd hnone h

/-- A Select that finds no target leaves the interrupt and the log alone (R314). -/
theorem cmdSelect_absent {s : State} (h : s.nextDevice = none) :
    s.cmdSelect.irq = s.irq ∧ s.cmdSelect.auxStatus = s.auxStatus ∧ s.cmdSelect.scsiStatus = s.scsiStatus ∧
    s.cmdSelect.log = s.log := by
  rcases cmdSelect_cases s with ⟨d, hsome, -⟩ | ⟨-, he⟩
  · rw [h] at hsome; cases hsome
  · rw [he]; exact ⟨rfl, rfl, rfl, rfl⟩

/-- Transfer-Info leaves the line and the code alone, whatever the lookup answers. -/
theorem cmdTransferInfo_keeps_interrupt (s : State) :
    s.cmdTransferInfo.irq = s.irq ∧ s.cmdTransferInfo.scsiStatus = s.scsiStatus := by
  rcases cmdTransferInfo_cases s with ⟨d, -, he⟩ | ⟨-, he⟩
  · rw [he]
    rcases transferOn_cases s.nextLun (s.findLun d (unitNumber s)) with
      ⟨-, hu⟩ | ⟨_, -, -, hu⟩ | ⟨_, -, -, -, hu⟩ | ⟨_, -, -, -, hu⟩ <;> rw [hu] <;> exact ⟨rfl, rfl⟩
  · rw [he]; exact ⟨rfl, rfl⟩

/-- The one command that raises the interrupt is a Select that finds its target. -/
theorem runCommand_raises {op : Byte} {s t : State} (h : runCommand op s = .next t) (hr : Raises s t) :
    op ∈ selectOpcodes ∧ s.nextDevice ≠ none ∧ t.scsiStatus = Config.stSelectComplete := by
  obtain ⟨u, hu, hc⟩ := runCommand_cases op s
  obtain rfl : u = t := by rw [hu] at h; cases h; rfl
  rcases hc with rfl | rfl | ⟨-, rfl⟩ | ⟨hop, rfl⟩ | ⟨-, rfl⟩
  · exact absurd hr (not_raises_of_eq rfl rfl)
  · exact absurd hr (not_raises_of_eq rfl rfl)
  · exact absurd hr (not_raises_of_eq rfl rfl)
  · have hfound : s.nextDevice ≠ none := fun hnone =>
      have ⟨hirq, _, hcode, _⟩ := cmdSelect_absent hnone
      not_raises_of_eq hirq hcode hr
    exact ⟨hop, hfound, (cmdSelect_present hfound).2⟩
  · obtain ⟨hirq, hcode⟩ := cmdTransferInfo_keeps_interrupt s
    exact absurd hr (not_raises_of_eq hirq hcode)

/-! ## The data port -/

/-- The one data-port access that raises the interrupt writes the opcode of a Select that finds its target. -/
theorem DataPort.raises {s t : State} {i : Instr} (d : DataPort s i t) (hr : Raises s t) :
    ∃ op ∈ selectOpcodes, i = .dw op ∧ s.state ≠ .polledWaitingDataOut ∧ s.ptr = Config.idxCommand ∧
      s.nextDevice ≠ none ∧ t.scsiStatus = Config.stSelectComplete := by
  cases d with
  | fetch b _ _ _ => exact absurd hr (not_raises_of_eq rfl rfl)
  | append v _ _ => exact absurd hr (not_raises_of_eq rfl rfl)
  | submit v _ _ => exact absurd hr (not_raises_of_eq rfl rfl)
  | quiet _ u _ hq =>
    obtain ⟨-, -, -, -, hirq, -, -, -, -, -, hcode, -⟩ := quiet_fields hq
    exact absurd hr (not_raises_of_eq hirq hcode)
  | status _ _ => exact absurd hr (not_raises_of_low rfl rfl)
  | command op u hstate hptr hrun =>
    obtain ⟨hop, hfound, hcode⟩ := runCommand_raises hrun hr
    exact ⟨op, hop, rfl, hstate, hptr, hfound, hcode⟩
  | pop _ =>
    rcases fifoPop_cases s with ⟨b, rest, -, he⟩ | ⟨-, he⟩ <;> rw [he] at hr <;>
      exact absurd hr (not_raises_of_eq rfl rfl)
  | push v _ =>
    rcases fifoPush_cases v s with ⟨-, he⟩ | ⟨-, he⟩ <;> rw [he] at hr <;> exact absurd hr (not_raises_of_eq rfl rfl)

/-- The register action of the command index stores the opcode, then runs it (R149). -/
theorem registerAction_idxCommand_write (op : Byte) (s : State) :
    registerAction Config.idxCommand (.write op) s = runCommand op { s with command := op } := rfl

/-- A step that writes the command register runs the opcode, then advances the pointer (R149, R124). -/
theorem step_commandWrite {s : State} {op : Byte} (h : s.commandWrite op) : ∃ rest,
    step s = mapNext (State.ptrAdvance s.ptr) (runCommand op { s.takeLine rest with command := op }) := by
  obtain ⟨⟨line, rest, hs, hl⟩, hstate, hptr⟩ := h
  refine ⟨rest, ?_⟩
  have hptr' : (s.takeLine rest).ptr = Config.idxCommand := hptr
  rw [step_cons hs hl, exec_dw_register (s := s.takeLine rest) op hstate, hptr', hptr, registerAction_idxCommand_write]

/-! ## The completion -/

/-- An awaited completion raises the interrupt with the code of its direction (R262). -/
theorem completion_awaited {s : State} (len : Int) (h : s.state = .polledExecuting) :
    (s.completion len).irq = true ∧
    (s.completion len).scsiStatus = if 0 < len then Config.stXferDoneDataIn else Config.stXferDoneDataOut := by
  rcases completion_cases len s with ⟨-, hl, he⟩ | ⟨-, hl, he⟩ | ⟨hstray, -⟩
  · rw [he, if_pos hl]; exact ⟨rfl, rfl⟩
  · rw [he, if_neg (Int.not_lt.mpr hl)]; exact ⟨rfl, rfl⟩
  · exact absurd h hstray

/-- Only an awaited completion raises the interrupt, with the code of its direction. -/
theorem completion_raises {len : Int} {s : State} (hr : Raises s (s.completion len)) : s.state = .polledExecuting ∧
    ((len ≤ 0 ∧ (s.completion len).scsiStatus = Config.stXferDoneDataOut) ∨
      (0 < len ∧ (s.completion len).scsiStatus = Config.stXferDoneDataIn)) := by
  rcases completion_cases len s with ⟨hstate, hl, he⟩ | ⟨hstate, hl, he⟩ | ⟨-, he⟩
  · exact ⟨hstate, .inr ⟨hl, by rw [he]⟩⟩
  · exact ⟨hstate, .inl ⟨hl, by rw [he]⟩⟩
  · rw [he] at hr; exact absurd hr (not_raises_of_eq rfl rfl)

/-- The completion of an outstanding request removes it, and the block sees it (R300). -/
theorem exec_busComplete {s : State} {len : Int} (hm : len ∈ s.outstanding) :
    exec (.busComplete len) s = .next (({ s with outstanding := s.outstanding.erase len }).completion len) :=
  if_pos (List.contains_iff_mem.mpr hm)

/-- A step that takes the completion of an outstanding request lets the block see it. -/
theorem step_busComplete {s : State} {len : Int} (h : s.nextIs (.busComplete len)) (hm : len ∈ s.outstanding) : ∃ rest,
    step s = .next (({ s.takeLine rest with outstanding := s.outstanding.erase len }).completion len) := by
  obtain ⟨line, rest, hs, hl⟩ := h
  exact ⟨rest, (step_cons hs hl).trans (exec_busComplete (s := s.takeLine rest) hm)⟩

/-! ## The obligations -/

/-- Settles O19: the acknowledge keeps the low seven bits of the auxiliary status. -/
theorem scsiStatusReadAcknowledges : Obligations.ScsiStatusReadAcknowledges := by
  intro s
  calc exec (.idxScsiStatus .read) s
      = .next { s with result := some s.scsiStatus, auxStatus := clearInt s.auxStatus, irq := false } := rfl
    _ = .next { s with result := some s.scsiStatus, auxStatus := s.auxStatus &&& 0x7f#8, irq := false } := by
      rw [clearInt_eq]

/-- Settles O33: all four are `CmdSelect()`, whose case of no target only asks the bus and drops the bindings. -/
theorem selectionFailureIsSilent : Obligations.SelectionFailureIsSilent :=
  fun _ hi s hnone => ⟨s.cmdSelect, exec_select hi s, cmdSelect_absent hnone⟩

/-- Settles O55: the first two clauses run the cause; the third goes through what a completed step can do, where only a Select
that finds its target and an awaited completion raise. -/
theorem interruptHasThreeCauses : Obligations.InterruptHasThreeCauses := by
  refine ⟨?select, ?completion, ?only⟩
  case select =>
    intro s op hop hwrite hfound
    obtain ⟨rest, hstep⟩ := step_commandWrite hwrite
    rw [runCommand_select hop, mapNext_next] at hstep
    exact ⟨_, hstep, cmdSelect_present (s := { s.takeLine rest with command := op }) hfound⟩
  case completion =>
    intro s len hnext hm hstate
    obtain ⟨rest, hstep⟩ := step_busComplete hnext hm
    exact ⟨_, hstep, completion_awaited len hstate⟩
  case only =>
    intro s t hstep hr
    rcases step_next_cases hstep with ⟨-, rfl⟩ | ⟨line, rest, i, hs, hl, hc⟩
    · exact absurd hr (not_raises_of_eq rfl rfl)
    rcases hc with ⟨-, rfl⟩ | ⟨v, -, rfl⟩ | hport | ⟨-, rfl⟩ | ⟨len, rfl, -, -, rfl⟩
    · exact absurd hr (not_raises_of_eq rfl rfl)
    · exact absurd hr (not_raises_of_eq rfl rfl)
    · obtain ⟨op, hop, rfl, hstate, hptr, hfound, hcode⟩ := hport.raises hr
      exact .inl ⟨⟨op, hop, ⟨line, rest, hs, hl⟩, hstate, hptr⟩, hfound, hcode⟩
    · exact absurd hr (not_raises_of_eq rfl rfl)
    · obtain ⟨hstate, hcode⟩ :=
        completion_raises (s := { s.takeLine rest with outstanding := s.outstanding.erase len }) hr
      exact .inr ⟨hstate, len, ⟨line, rest, hs, hl⟩, hcode⟩

end Sys2Proof.Machine

/-! SUPPORT and PROOFS, family 70_reset_and_hazards: the data-port read that reaches the SCSI status register (R364). -/

namespace Sys2Proof.Machine

/-- The pointer advance leaves a state whose pointer stands at one of the two sticky indices as it is (R124). -/
theorem State.ptrAdvance_of_status {s : State} {p : Index} (hptr : s.ptr = p)
    (hp : p = Config.idxScsiStatus ∨ p = Config.idxAuxStatus) : s.ptrAdvance p = s := by
  unfold State.ptrAdvance
  rw [nextPtr_of_status hp, ← hptr]

/-- The read action of the SCSI status index is the instruction of its row (R148). -/
theorem registerAction_idxScsiStatus_read (s : State) :
    registerAction Config.idxScsiStatus .read s = exec (.idxScsiStatus .read) s := rfl

/-- An intercepted data-port read that completes takes one byte of the transfer buffer, then advances the pointer (R254). -/
theorem exec_dr_intercepted_next {s t : State} (hstate : s.state = .polledWaitingDataIn) (h : exec .dr s = .next t) :
    ∃ b, s.buf[s.pos]? = some b ∧ t = State.ptrAdvance s.ptr { s with pos := s.pos + 1, result := some b } := by
  rw [exec_dr_intercepted hstate] at h
  obtain ⟨u, hfetch, rfl⟩ := mapNext_eq_next h
  rcases xferFetch_cases s with ⟨b, -, hb, he⟩ | ⟨-, he⟩
  · rw [he] at hfetch; cases hfetch; exact ⟨b, hb, rfl⟩
  · rw [he] at hfetch; cases hfetch

/-- Settles O20: outside the intercept the read runs the acknowledge of O19 and the sticky pointer stays; inside it only the
transfer position, the returned byte and the pointer are written. -/
theorem statusReadThroughPortAcknowledges : Obligations.StatusReadThroughPortAcknowledges := by
  intro s hptr
  constructor
  · intro hstate
    calc exec .dr s
        = mapNext (State.ptrAdvance Config.idxScsiStatus) (exec (.idxScsiStatus .read) s) := by
          rw [exec_dr_register hstate, hptr, registerAction_idxScsiStatus_read]
      _ = .next (State.ptrAdvance Config.idxScsiStatus
            { s with result := some s.scsiStatus, auxStatus := s.auxStatus &&& 0x7f#8, irq := false }) := by
          rw [scsiStatusReadAcknowledges s, mapNext_next]
      _ = .next { s with result := some s.scsiStatus, auxStatus := s.auxStatus &&& 0x7f#8, irq := false } :=
          congrArg _ (State.ptrAdvance_of_status hptr (.inl rfl))
  · intro hstate t h
    obtain ⟨b, -, rfl⟩ := exec_dr_intercepted_next hstate h
    exact ⟨rfl, rfl, rfl, rfl⟩

end Sys2Proof.Machine

/-! SUPPORT and PROOFS, family other: the decoder and the encoder (R90, R98, R104, R109) and the lines of a script (R11, R61). -/

namespace Sys2Proof

/-! ## Rows and their encoded forms -/

/-- The instruction of an index row is encoded by the row's index and the access (R98). -/
theorem encode_indexRow_instr (r : IndexRow) (a : RegAccess) : encode (r.instr a) = .regidx r.index a := by
  cases r <;> rfl

/-- The instruction of an opcode row is encoded by the row's opcode (R104). -/
theorem encode_commandRow_instr (r : CommandRow) : encode r.instr = .cmd r.opcode := by
  cases r <;> rfl

/-- An index of the range 0x20 to 0x3f that no exact row takes decodes to the row of that range. -/
theorem decodeIndex_inRange20_3F {p : Index} (h : (inRange20_3F p && !exactIndices.contains p) = true) :
    decodeIndex p = .unknown20_3F p := by
  revert p; decide

/-- An index of the range 0x40 to 0x7f that no exact row takes decodes to the row of that range. -/
theorem decodeIndex_inRange40_7F {p : Index} (h : (inRange40_7F p && !exactIndices.contains p) = true) :
    decodeIndex p = .unknown40_7F p := by
  revert p; decide

/-- An index that neither an exact row nor a range takes decodes to the catch-all. -/
theorem decodeIndex_catchAll {p : Index}
    (h : (!exactIndices.contains p && !inRange20_3F p && !inRange40_7F p) = true) : decodeIndex p = .unknown p := by
  revert p; decide

/-- An opcode that no exact row takes decodes to the catch-all: the row decoded to stands for it, and is no exact one. -/
theorem decodeCommand_catchAll {op : Opcode} (h : (!exactOpcodes.contains op) = true) :
    decodeCommand op = .unsupported op := by
  have hop : (decodeCommand op).opcode = op := opcode_decodeCommand op
  revert hop
  cases decodeCommand op
  case unsupported => exact congrArg CommandRow.unsupported
  all_goals rintro rfl; exact absurd h (by decide)

/-! ## Access words -/

/-- An access word is its two flags and its data byte (R90). -/
theorem accessWord_flags_byte (w : AccessWord) :
    accessWord (w.getLsbD 9) (w.getLsbD 8) (w.extractLsb' 0 8) = w := by
  apply BitVec.eq_of_getLsbD_eq
  intro i (hi : i < 10)
  unfold accessWord
  simp only [BitVec.getLsbD_append, BitVec.getLsbD_extractLsb', Config.regBits, Nat.zero_add]
  by_cases hbyte : i < 8
  · simp [hbyte]
  · obtain rfl | rfl : i = 8 ∨ i = 9 := by omega
    · simp
    · simp

/-- The word of a read with its ignored data bits cleared (R90). -/
theorem accessWord_read_masked (a : Bool) (v : Byte) :
    accessWord false a v &&& 0b0100000000#10 = accessWord false a 0x00#8 := by
  revert v; cases a <;> decide

/-- The value of a read is ignored (R11). -/
theorem decodeLine_read_value (offset width value : Nat) :
    decodeLine (.host ⟨false, offset, width, value⟩) = decodeLine (.host ⟨false, offset, width, 0⟩) := by
  simp only [decodeLine, HostAccess.word?, HostAccess.admitted, Bool.not_false, Bool.true_or, Bool.false_eq_true, if_false]

/-! ## The obligations -/

/-- Settles O2: an exact row is found by evaluating its map, a row that carries its operand by its catch-all lemma. -/
theorem decodeOfEncode : Obligations.DecodeOfEncode := by
  intro _ _ i hwf
  cases i
  case ar => exact decodeAccess_accessWord false false 0x00#8
  case dr => exact decodeAccess_accessWord false true 0x00#8
  case aw v => exact decodeAccess_accessWord true false v
  case dw v => exact decodeAccess_accessWord true true v
  case idxUnknown20_3F p a => exact congrArg (IndexRow.instr · a) (decodeIndex_inRange20_3F hwf)
  case idxUnknown40_7F p a => exact congrArg (IndexRow.instr · a) (decodeIndex_inRange40_7F hwf)
  case idxUnknown p a => exact congrArg (IndexRow.instr · a) (decodeIndex_catchAll hwf)
  case opUnsupported op => exact congrArg CommandRow.instr (decodeCommand_catchAll hwf)
  all_goals rfl

/-- Settles O3: an index or an opcode is the number of the row it decodes to; an access word is its flags and its byte. -/
theorem encodeOfDecode : Obligations.EncodeOfDecode := by
  refine ⟨fun p a => ?index, fun op => ?opcode, fun w => ?access⟩
  case index =>
    calc encode ((decodeIndex p).instr a)
        = .regidx (decodeIndex p).index a := encode_indexRow_instr _ a
      _ = .regidx p a := by rw [index_decodeIndex]
  case opcode =>
    calc encode (decodeCommand op).instr
        = .cmd (decodeCommand op).opcode := encode_commandRow_instr _
      _ = .cmd op := by rw [opcode_decodeCommand]
  case access =>
    obtain ⟨wr, a, v, rfl⟩ : ∃ wr a v, w = accessWord wr a v := ⟨_, _, _, (accessWord_flags_byte w).symm⟩
    obtain ⟨hflag, -⟩ := getLsbD_accessWord wr a v
    show encode (decodeAccess (accessWord wr a v)) = _
    rw [decodeAccess_accessWord, hflag]
    cases wr with
    | true => cases a <;> rfl
    | false =>
      rw [if_neg Bool.false_ne_true, accessWord_read_masked]
      cases a <;> rfl

/-- Settles O1, by evaluating the decoder on each word. -/
theorem sampleWordsDecode : Obligations.SampleWordsDecode :=
  fun _ _ => ⟨rfl, rfl, rfl, rfl, rfl, rfl, rfl, rfl, rfl⟩

/-- Settles O4: the four lines of R108, the two reads with their ignored value replaced by 0. -/
theorem admittedAccessesAreThePortOperations : Obligations.AdmittedAccessesAreThePortOperations :=
  fun v x => ⟨(decodeLine_read_value 0 1 x).trans decodeLine_ar, (decodeLine_read_value 1 1 x).trans decodeLine_dr,
    decodeLine_aw v, decodeLine_dw v⟩

end Sys2Proof

/-! SUPPORT and PROOFS, family other: what every step keeps: the invariants of R38 and those of the bookkeeping (R300, R266). -/

namespace Sys2Proof.Machine

/-- What a command that completes has done. -/
theorem runCommand_next_cases {op : Opcode} {s t : State} (h : runCommand op s = .next t) :
    t = s ∨ t = s.logEvent (.unsupportedCommand op) ∨ (op = Config.opReset ∧ t = s.cmdReset) ∨
      (op ∈ selectOpcodes ∧ t = s.cmdSelect) ∨ (op = Config.opTransferInfo ∧ t = s.cmdTransferInfo) := by
  obtain ⟨u, hu, hc⟩ := runCommand_cases op s
  rw [hu] at h
  cases h
  exact hc

/-! ## The invariants of R38, operation by operation -/

/-- The invariants read no plain register. -/
theorem inv_withoutPlainRegisters (s : State) : s.withoutPlainRegisters.Inv ↔ s.Inv :=
  ⟨fun h => { h with }, fun h => { h with }⟩

theorem State.Inv.takeLine {s : State} (h : s.Inv) (rest : List Line) : (s.takeLine rest).Inv := { h with }

theorem State.Inv.ptrAdvance {s : State} (h : s.Inv) (p : Index) : (s.ptrAdvance p).Inv := { h with }

theorem State.Inv.logEvent {s : State} (h : s.Inv) (e : LogEvent) : (s.logEvent e).Inv := { h with }

/-- A quiet action keeps the invariants, which read neither the log nor the returned byte. -/
theorem State.Inv.quiet {s t : State} (h : s.Inv) (q : Quiet s t) : t.Inv := by
  have hlog : ({ s with log := t.log, result := t.result } : State).Inv := { h with }
  rw [← inv_withoutPlainRegisters, q]
  exact (inv_withoutPlainRegisters _).mpr hlog

/-- A pop leaves the queue no longer than it was. -/
theorem State.Inv.fifoPop {s : State} (h : s.Inv) : s.fifoPop.Inv := by
  rcases fifoPop_cases s with ⟨b, rest, hfifo, he⟩ | ⟨-, he⟩ <;> rw [he]
  · have hlen : s.fifo.length ≤ 12 := h.queue_fits
    rw [hfifo, List.length_cons] at hlen
    exact { h with queue_fits := Nat.le_of_succ_le hlen }
  · exact { h with }

/-- A push goes into the queue only while there is room. -/
theorem State.Inv.fifoPush {s : State} (h : s.Inv) (b : Byte) : (s.fifoPush b).Inv := by
  rcases fifoPush_cases b s with ⟨hroom, he⟩ | ⟨-, he⟩ <;> rw [he]
  · exact { h with queue_fits := by simpa using hroom }
  · exact h.logEvent _

/-- The acknowledge lowers the line and `INT` together. -/
theorem State.Inv.irqAck {s : State} (h : s.Inv) (b : Byte) : (s.irqAck.answer b).Inv :=
  { h with
    line_is_int := (getLsbD_clearInt s.auxStatus).symm
    low_bits_clear := (clearInt_low s.auxStatus).trans h.low_bits_clear }

/-- Outside the filling of a buffer the bindings may be dropped. -/
theorem State.Inv.cmdReset {s : State} (h : s.Inv) (hstate : s.state ≠ .polledWaitingDataOut) : s.cmdReset.Inv :=
  { h with filling_is_bound := fun hfill => absurd hfill hstate }

/-- A Select raises the line and `INT` together, or leaves both. -/
theorem State.Inv.cmdSelect {s : State} (h : s.Inv) (hstate : s.state ≠ .polledWaitingDataOut) : s.cmdSelect.Inv := by
  rcases cmdSelect_cases s with ⟨d, -, he⟩ | ⟨-, he⟩ <;> rw [he]
  · exact { h with
      line_is_int := (getLsbD_setInt s.auxStatus).symm
      low_bits_clear := (setInt_low s.auxStatus).trans h.low_bits_clear
      filling_is_bound := fun hfill => absurd hfill hstate
      status_code := .inr (.inl rfl) }
  · exact { h with filling_is_bound := fun hfill => absurd hfill hstate }

/-- Once the lookup is made on a bound device, Transfer-Info starts a transfer in the state of the phase with a full buffer. -/
theorem State.Inv.transferOn {s : State} (h : s.Inv) (hstate : s.state ≠ .polledWaitingDataOut) (hdev : s.curDev ≠ none)
    (u : Option LunHandle) : (s.transferOn u).Inv := by
  rcases transferOn_cases u s with ⟨-, he⟩ | ⟨lun, -, -, he⟩ | ⟨lun, -, -, hphase, he⟩ | ⟨lun, -, -, hphase, he⟩ <;> rw [he]
  · exact h.logEvent _
  · exact { h with filling_is_bound := fun hfill => absurd hfill hstate }
  · exact { h with
      cursor_in_range := Nat.zero_le _
      buffer_full_length := List.length_replicate
      filling_is_bound := fun _ => ⟨Option.some_ne_none lun, hdev, (Nat.eq_zero_or_pos _).symm⟩
      out_state_phase := fun _ => hphase
      in_state_phase := by simp }
  · exact { h with
      cursor_in_range := Nat.zero_le _
      buffer_full_length := rfl
      filling_is_bound := by simp
      out_state_phase := by simp
      in_state_phase := fun _ => hphase }

/-- Transfer-Info keeps the invariants: without a device it only logs. -/
theorem State.Inv.cmdTransferInfo {s : State} (h : s.Inv) (hstate : s.state ≠ .polledWaitingDataOut) :
    s.cmdTransferInfo.Inv := by
  rcases cmdTransferInfo_cases s with ⟨d, hdev, he⟩ | ⟨-, he⟩ <;> rw [he]
  · have hlookup : (s.findLun d (unitNumber s)).Inv := { h with }
    exact hlookup.transferOn hstate (by simp [hdev]) _
  · exact h.logEvent _

/-- Every command, run outside the filling of a buffer, keeps the invariants. -/
theorem State.Inv.runCommand {op : Opcode} {s t : State} (h : s.Inv) (hstate : s.state ≠ .polledWaitingDataOut)
    (hrun : runCommand op s = .next t) : t.Inv := by
  rcases runCommand_next_cases hrun with rfl | rfl | ⟨-, rfl⟩ | ⟨-, rfl⟩ | ⟨-, rfl⟩
  · exact h
  · exact h.logEvent _
  · exact h.cmdReset hstate
  · exact h.cmdSelect hstate
  · exact h.cmdTransferInfo hstate

/-- Every completed access to the data port keeps the invariants. -/
theorem State.Inv.dataPort {s t : State} {i : Instr} (h : s.Inv) (d : DataPort s i t) : t.Inv := by
  cases d with
  | fetch b hstate hpos _ =>
    exact { h with
      cursor_in_range := hpos
      filling_is_bound := by simp [hstate] }
  | append v hstate hpos =>
    obtain ⟨hlun, hdev, -⟩ := h.filling_is_bound hstate
    exact { h with
      cursor_in_range := Nat.le_of_lt hpos
      buffer_full_length := List.length_set.trans h.buffer_full_length
      filling_is_bound := fun _ => ⟨hlun, hdev, .inl hpos⟩ }
  | submit v hstate hpos =>
    exact { h with
      cursor_in_range := Nat.le_of_eq hpos
      buffer_full_length := List.length_set.trans h.buffer_full_length
      filling_is_bound := by simp [xferSubmit_eq]
      out_state_phase := by simp [xferSubmit_eq]
      in_state_phase := by simp [xferSubmit_eq] }
  | quiet _ u _ hq => exact (h.quiet hq).ptrAdvance _
  | status _ _ => exact (h.irqAck _).ptrAdvance _
  | command v u hstate _ hrun =>
    have hstored : ({ s with command := v } : State).Inv := { h with }
    exact (hstored.runCommand hstate hrun).ptrAdvance _
  | pop _ => exact h.fifoPop.ptrAdvance _
  | push v _ => exact (h.fifoPush v).ptrAdvance _

/-- A completion enters the Complete state of the phase it sets, with the line and `INT` raised together, or only logs. -/
theorem State.Inv.completion {s : State} (h : s.Inv) (len : Int) : (s.completion len).Inv := by
  rcases completion_cases len s with ⟨-, -, he⟩ | ⟨-, -, he⟩ | ⟨-, he⟩ <;> rw [he]
  · exact { h with
      line_is_int := (getLsbD_setInt s.auxStatus).symm
      low_bits_clear := (setInt_low s.auxStatus).trans h.low_bits_clear
      filling_is_bound := by simp
      out_state_phase := by simp
      in_state_phase := fun _ => rfl
      status_code := .inr (.inr (.inr rfl)) }
  · exact { h with
      line_is_int := (getLsbD_setInt s.auxStatus).symm
      low_bits_clear := (setInt_low s.auxStatus).trans h.low_bits_clear
      filling_is_bound := by simp
      out_state_phase := fun _ => rfl
      in_state_phase := by simp
      status_code := .inr (.inr (.inl rfl)) }
  · exact { h with }

theorem State.Inv.deviceReset {s : State} (h : s.Inv) : s.deviceReset.Inv :=
  { h with
    filling_is_bound := by simp
    out_state_phase := fun _ => rfl
    in_state_phase := by simp }

/-! ## The invariants of the bookkeeping, operation by operation -/

/-- The bookkeeping's invariants read no plain register. -/
theorem awaitInv_withoutPlainRegisters (s : State) : s.withoutPlainRegisters.AwaitInv ↔ s.AwaitInv :=
  ⟨fun h => { h with }, fun h => { h with }⟩

theorem State.AwaitInv.takeLine {s : State} (h : s.AwaitInv) (rest : List Line) : (s.takeLine rest).AwaitInv := { h with }

theorem State.AwaitInv.ptrAdvance {s : State} (h : s.AwaitInv) (p : Index) : (s.ptrAdvance p).AwaitInv := { h with }

theorem State.AwaitInv.logEvent {s : State} (h : s.AwaitInv) (e : LogEvent) : (s.logEvent e).AwaitInv := { h with }

/-- A quiet action keeps the bookkeeping's invariants. -/
theorem State.AwaitInv.quiet {s t : State} (h : s.AwaitInv) (q : Quiet s t) : t.AwaitInv := by
  have hlog : ({ s with log := t.log, result := t.result } : State).AwaitInv := { h with }
  rw [← awaitInv_withoutPlainRegisters, q]
  exact (awaitInv_withoutPlainRegisters _).mpr hlog

theorem State.AwaitInv.fifoPop {s : State} (h : s.AwaitInv) : s.fifoPop.AwaitInv := by
  rcases fifoPop_cases s with ⟨b, rest, -, he⟩ | ⟨-, he⟩ <;> rw [he] <;> exact { h with }

theorem State.AwaitInv.fifoPush {s : State} (h : s.AwaitInv) (b : Byte) : (s.fifoPush b).AwaitInv := by
  rcases fifoPush_cases b s with ⟨-, he⟩ | ⟨-, he⟩ <;> rw [he] <;> exact { h with }

theorem State.AwaitInv.cmdSelect {s : State} (h : s.AwaitInv) : s.cmdSelect.AwaitInv := by
  rcases cmdSelect_cases s with ⟨d, -, he⟩ | ⟨-, he⟩ <;> rw [he] <;> exact { h with }

/-- The submit records its fresh handle, puts it in flight and makes a completion outstanding (R251, R292). -/
theorem State.AwaitInv.xferSubmit {s : State} (h : s.AwaitInv) (hphase : s.phase = .dataOut) : s.xferSubmit.AwaitInv := by
  rw [xferSubmit_eq]
  exact { h with
    rising := addOutstanding_rising _ h.rising
    handles_differ := List.nodup_cons.mpr ⟨nextRequest_fresh s, h.handles_differ⟩
    request_issued := by rintro _ ⟨⟩; exact List.mem_cons_self
    completion_due := fun _ => addOutstanding_ne_nil _ _
    filling_phase := fun _ => hphase
    executing_phase := fun _ => hphase }

/-- Transfer-Info fills only in phase DataOut; a drain records its fresh handle and puts it in flight (R231, R232). -/
theorem State.AwaitInv.transferOn {s : State} (h : s.AwaitInv) (u : Option LunHandle) : (s.transferOn u).AwaitInv := by
  rcases transferOn_cases u s with ⟨-, he⟩ | ⟨lun, -, -, he⟩ | ⟨lun, -, -, hphase, he⟩ | ⟨lun, -, -, -, he⟩ <;> rw [he]
  · exact h.logEvent _
  · exact { h with }
  · exact { h with
      completion_due := by simp
      filling_phase := fun _ => hphase
      executing_phase := by simp }
  · exact {
      rising := addOutstanding_rising _ h.rising
      handles_differ := List.nodup_cons.mpr ⟨nextRead_fresh s, h.handles_differ⟩
      request_issued := by rintro _ ⟨⟩; exact List.mem_cons_self
      completion_due := by simp
      filling_phase := by simp
      executing_phase := by simp }

theorem State.AwaitInv.cmdTransferInfo {s : State} (h : s.AwaitInv) : s.cmdTransferInfo.AwaitInv := by
  rcases cmdTransferInfo_cases s with ⟨d, -, he⟩ | ⟨-, he⟩ <;> rw [he]
  · have hlookup : (s.findLun d (unitNumber s)).AwaitInv := { h with }
    exact hlookup.transferOn _
  · exact h.logEvent _

/-- Every command keeps the bookkeeping's invariants. -/
theorem State.AwaitInv.runCommand {op : Opcode} {s t : State} (h : s.AwaitInv) (hrun : runCommand op s = .next t) :
    t.AwaitInv := by
  rcases runCommand_next_cases hrun with rfl | rfl | ⟨-, rfl⟩ | ⟨-, rfl⟩ | ⟨-, rfl⟩
  · exact h
  · exact h.logEvent _
  · exact { h with }
  · exact h.cmdSelect
  · exact h.cmdTransferInfo

/-- Every completed access to the data port keeps the bookkeeping's invariants. -/
theorem State.AwaitInv.dataPort {s t : State} {i : Instr} (h : s.AwaitInv) (d : DataPort s i t) : t.AwaitInv := by
  cases d with
  | fetch b _ _ _ => exact { h with }
  | append v _ _ => exact { h with }
  | submit v hstate _ =>
    have hstored : ({ s with buf := s.buf.set s.pos v, pos := s.pos + 1 } : State).AwaitInv := { h with }
    exact (hstored.xferSubmit (h.filling_phase hstate)).ptrAdvance _
  | quiet _ u _ hq => exact (h.quiet hq).ptrAdvance _
  | status _ _ => exact { h with }
  | command v u _ _ hrun =>
    have hstored : ({ s with command := v } : State).AwaitInv := { h with }
    exact (hstored.runCommand hrun).ptrAdvance _
  | pop _ => exact h.fifoPop.ptrAdvance _
  | push v _ => exact (h.fifoPush v).ptrAdvance _

/-- A completion taken from the bookkeeping is awaited no longer: the block leaves `PolledExecuting`, or was not there. -/
theorem State.AwaitInv.completion {s : State} (h : s.AwaitInv) (len : Int) :
    (({ s with outstanding := s.outstanding.erase len } : State).completion len).AwaitInv := by
  have hrising := erase_rising len h.rising
  rcases completion_cases len { s with outstanding := s.outstanding.erase len } with
    ⟨-, -, he⟩ | ⟨-, -, he⟩ | ⟨hstray, he⟩ <;> rw [he]
  · exact { h with rising := hrising, completion_due := by simp, filling_phase := by simp, executing_phase := by simp }
  · exact { h with rising := hrising, completion_due := by simp, filling_phase := by simp, executing_phase := by simp }
  · exact { h with rising := hrising, completion_due := fun hexec => absurd hexec hstray }

theorem State.AwaitInv.deviceReset {s : State} (h : s.AwaitInv) : s.deviceReset.AwaitInv :=
  { h with request_issued := by simp, completion_due := by simp, filling_phase := by simp, executing_phase := by simp }

/-! ## The obligations -/

/-- Settles O52: each of the six kinds of step keeps the invariants by the lemma of its operation. -/
theorem everyStepKeepsInvariants : Obligations.EveryStepKeepsInvariants := by
  intro s t h hstep
  rcases step_next_cases hstep with ⟨-, rfl⟩ | ⟨line, rest, i, -, -, hc⟩
  · exact h
  have htaken : (s.takeLine rest).Inv := h.takeLine rest
  rcases hc with ⟨-, rfl⟩ | ⟨v, -, rfl⟩ | hport | ⟨-, rfl⟩ | ⟨len, -, -, -, rfl⟩
  · exact { htaken with }
  · exact { htaken with }
  · exact htaken.dataPort hport
  · exact htaken.deviceReset
  · have hremoved : ({ s.takeLine rest with outstanding := s.outstanding.erase len } : State).Inv := { htaken with }
    exact hremoved.completion len

/-- Settles O53: each of the six kinds of step keeps the bookkeeping's invariants by the lemma of its operation. -/
theorem everyStepKeepsAwaitInvariants : Obligations.EveryStepKeepsAwaitInvariants := by
  intro s t h hstep
  rcases step_next_cases hstep with ⟨-, rfl⟩ | ⟨line, rest, i, -, -, hc⟩
  · exact h
  have htaken : (s.takeLine rest).AwaitInv := h.takeLine rest
  rcases hc with ⟨-, rfl⟩ | ⟨v, -, rfl⟩ | hport | ⟨-, rfl⟩ | ⟨len, -, -, -, rfl⟩
  · exact { htaken with }
  · exact { htaken with }
  · exact htaken.dataPort hport
  · exact htaken.deviceReset
  · exact htaken.completion len

/-- Settles O51: after power-on nothing is queued, bound, outstanding or pending. -/
theorem invariantsHoldAtPowerOn : Obligations.InvariantsHoldAtPowerOn := by
  refine ⟨⟨by decide, by decide, by decide, by decide, by decide, ?_, fun _ => rfl, ?_, .inl rfl⟩,
    ⟨.nil, .nil, ?_, ?_, fun _ => rfl, fun _ => rfl⟩⟩ <;> simp [State.reset]

end Sys2Proof.Machine

/-! SUPPORT and PROOFS, family other: what a command, a data-port access and a step leave alone (R235, R108), and the statements about
the whole machine: the transition table (R241, R266), the clearing of `INT` (R321), faults and refusals (R318, R66, R300). -/

namespace Sys2Proof.Machine

/-! ## What a command leaves alone -/

/-- `t` differs from `s` at most where a command writes: the interrupt, the transfer, the bindings, the bus and the traces. -/
def CommandFrame (s t : State) : Prop :=
  t = { s with
    scsiStatus := t.scsiStatus, auxStatus := t.auxStatus, irq := t.irq, state := t.state, buf := t.buf, pos := t.pos,
    size := t.size, curDev := t.curDev, curLun := t.curLun, curReq := t.curReq, outstanding := t.outstanding,
    issued := t.issued, log := t.log, busTrace := t.busTrace, devAnswers := t.devAnswers, lunAnswers := t.lunAnswers,
    reqAnswers := t.reqAnswers, readAnswers := t.readAnswers, busCalls := t.busCalls }

theorem cmdTransferInfo_frame (s : State) : CommandFrame s s.cmdTransferInfo := by
  rcases cmdTransferInfo_cases s with ⟨d, -, he⟩ | ⟨-, he⟩
  · rw [he]
    rcases transferOn_cases s.nextLun (s.findLun d (unitNumber s)) with
      ⟨-, hu⟩ | ⟨_, -, -, hu⟩ | ⟨_, -, -, -, hu⟩ | ⟨_, -, -, -, hu⟩ <;> rw [hu] <;> rfl
  · rw [he]; rfl

/-- Every command stays in the frame. -/
theorem runCommand_frame {op : Opcode} {s t : State} (h : runCommand op s = .next t) : CommandFrame s t := by
  rcases runCommand_next_cases h with rfl | rfl | ⟨-, rfl⟩ | ⟨-, rfl⟩ | ⟨-, rfl⟩
  · rfl
  · rfl
  · rfl
  · rcases cmdSelect_cases s with ⟨d, -, he⟩ | ⟨-, he⟩ <;> rw [he] <;> rfl
  · exact cmdTransferInfo_frame s

/-- The fields outside the plain registers that a command keeps. -/
theorem CommandFrame.fields {s t : State} (h : CommandFrame s t) :
    t.ptr = s.ptr ∧ t.fifo = s.fifo ∧ t.phase = s.phase ∧ t.command = s.command ∧ t.result = s.result ∧ t.script = s.script :=
  ⟨(congrArg State.ptr h :), (congrArg State.fifo h :), (congrArg State.phase h :), (congrArg State.command h :),
    (congrArg State.result h :), (congrArg State.script h :)⟩

/-! ## What a data-port access and a step leave alone -/

/-- After a completed data-port access the pointer has advanced from where it was, whatever the access did (R124). -/
theorem DataPort.ptr_eq {s t : State} {i : Instr} (d : DataPort s i t) : t.ptr = nextPtr s.ptr := by
  cases d <;> rfl

/-- A data-port access keeps the phase and the rest of the script. -/
theorem DataPort.keeps_phase_script {s t : State} {i : Instr} (d : DataPort s i t) :
    t.phase = s.phase ∧ t.script = s.script := by
  cases d with
  | fetch b _ _ _ => exact ⟨rfl, rfl⟩
  | append v _ _ => exact ⟨rfl, rfl⟩
  | submit v _ _ => exact ⟨rfl, rfl⟩
  | quiet _ u _ hq =>
    obtain ⟨-, -, -, -, -, -, -, hphase, -, -, -, -, -, -, hscript, -⟩ := quiet_fields hq
    exact ⟨hphase, hscript⟩
  | status _ _ => exact ⟨rfl, rfl⟩
  | command v u _ _ hrun =>
    obtain ⟨-, -, hphase, -, -, hscript⟩ := (runCommand_frame hrun).fields
    exact ⟨hphase, hscript⟩
  | pop _ => rcases fifoPop_cases s with ⟨b, rest, -, he⟩ | ⟨-, he⟩ <;> rw [he] <;> exact ⟨rfl, rfl⟩
  | push v _ => rcases fifoPush_cases v s with ⟨-, he⟩ | ⟨-, he⟩ <;> rw [he] <;> exact ⟨rfl, rfl⟩

/-- A completion keeps the script. -/
theorem completion_script (len : Int) (s : State) : (s.completion len).script = s.script := by
  rcases completion_cases len s with ⟨-, -, he⟩ | ⟨-, -, he⟩ | ⟨-, he⟩ <;> rw [he]

/-- A step takes one line from the script, where one is left, and adds none (R108). -/
theorem step_script {s t : State} (h : step s = .next t) : t.script = s.script.tail := by
  rcases step_next_cases h with ⟨hs, rfl⟩ | ⟨line, rest, i, hs, -, hc⟩
  · rw [hs, List.tail_nil]
  rw [hs, List.tail_cons]
  rcases hc with ⟨-, rfl⟩ | ⟨v, -, rfl⟩ | hport | ⟨-, rfl⟩ | ⟨len, -, -, -, rfl⟩
  · rfl
  · rfl
  · exact hport.keeps_phase_script.2
  · rfl
  · exact completion_script len _

/-! ## Runs -/

/-- A run of one step more is a step and a run. -/
theorem run_succ_next {n : Nat} {s t : State} (h : Sys2Proof.core.run (n + 1) s = .next t) :
    ∃ u, step s = .next u ∧ Sys2Proof.core.run n u = .next t := by
  cases hs : step s with
  | next u => rw [run_next hs] at h; exact ⟨u, rfl, h⟩
  | fault r => rw [run_fault hs] at h; cases h
  | refused r => rw [run_refused hs] at h; cases h

/-- What every step keeps, every run keeps. -/
theorem run_keeps {P : State → Prop} (hstep : ∀ s t, P s → step s = .next t → P t) (n : Nat) {s t : State} (hs : P s)
    (h : Sys2Proof.core.run n s = .next t) : P t := by
  induction n generalizing s with
  | zero => cases h; exact hs
  | succ n ih =>
    obtain ⟨u, hu, hrest⟩ := run_succ_next h
    exact ih (hstep s u hs hu) hrest

/-! ## The transition table (R241) -/

/-- From `s` to `t` a polled transfer starts, on a unit found on the bound device, in the waiting state of the phase. -/
def StartsTransfer (s t : State) : Prop :=
  s.curDev ≠ none ∧ s.nextLun ≠ none ∧ s.control.extractLsb' 5 3 = Config.dmaModePolled ∧ t.phase = s.phase ∧ t.pos = 0 ∧
    ((s.phase = .dataOut ∧ t.state = .polledWaitingDataOut ∧ t.size = s.transferCount.toNat) ∨
     (s.phase = .dataIn ∧ t.state = .polledWaitingDataIn))

/-- A Transfer-Info that changes the state starts a transfer. -/
theorem cmdTransferInfo_state_changed {s : State} (h : s.cmdTransferInfo.state ≠ s.state) :
    StartsTransfer s s.cmdTransferInfo := by
  rcases cmdTransferInfo_cases s with ⟨d, hdev, he⟩ | ⟨-, he⟩
  · rw [he] at h ⊢
    have hbound : s.curDev ≠ none := by simp [hdev]
    rcases transferOn_cases s.nextLun (s.findLun d (unitNumber s)) with
      ⟨-, hu⟩ | ⟨lun, -, -, hu⟩ | ⟨lun, hlun, hmode, hphase, hu⟩ | ⟨lun, hlun, hmode, hphase, hu⟩ <;> rw [hu] at h ⊢
    · exact absurd rfl h
    · exact absurd rfl h
    · exact ⟨hbound, by simp [hlun], hmode, rfl, rfl, .inl ⟨hphase, rfl, rfl⟩⟩
    · exact ⟨hbound, by simp [hlun], hmode, rfl, rfl, .inr ⟨hphase, rfl⟩⟩
  · rw [he] at h; exact absurd rfl h

/-- The one command that changes the state is a Transfer-Info that starts a transfer. -/
theorem runCommand_state_changed {op : Opcode} {s t : State} (hrun : runCommand op s = .next t) (h : t.state ≠ s.state) :
    op = Config.opTransferInfo ∧ StartsTransfer s t := by
  rcases runCommand_next_cases hrun with rfl | rfl | ⟨-, rfl⟩ | ⟨-, rfl⟩ | ⟨hop, rfl⟩
  · exact absurd rfl h
  · exact absurd rfl h
  · exact absurd rfl h
  · rcases cmdSelect_cases s with ⟨d, -, he⟩ | ⟨-, he⟩ <;> rw [he] at h <;> exact absurd rfl h
  · exact ⟨hop, cmdTransferInfo_state_changed h⟩

/-- A data-port access changes the state only as the write that fills the buffer, or as the Transfer-Info that starts a
transfer. -/
theorem DataPort.state_changed {s t : State} {i : Instr} (d : DataPort s i t) (h : t.state ≠ s.state) :
    (s.state = .polledWaitingDataOut ∧ (∃ v, i = .dw v) ∧ s.pos + 1 = s.size ∧ t.state = .polledExecuting) ∨
    (i = .dw Config.opTransferInfo ∧ s.state ≠ .polledWaitingDataOut ∧ s.ptr = Config.idxCommand ∧ StartsTransfer s t) := by
  cases d with
  | fetch b _ _ _ => exact absurd rfl h
  | append v _ _ => exact absurd rfl h
  | submit v hstate hpos => exact .inl ⟨hstate, ⟨v, rfl⟩, hpos, rfl⟩
  | quiet _ u _ hq =>
    obtain ⟨-, -, -, -, -, -, hstate, -⟩ := quiet_fields hq
    exact absurd hstate h
  | status _ _ => exact absurd rfl h
  | command v u hstate hptr hrun =>
    obtain ⟨rfl, hstart⟩ := runCommand_state_changed hrun h
    exact .inr ⟨rfl, hstate, hptr, hstart⟩
  | pop _ => rcases fifoPop_cases s with ⟨b, rest, -, he⟩ | ⟨-, he⟩ <;> rw [he] at h <;> exact absurd rfl h
  | push v _ => rcases fifoPush_cases v s with ⟨-, he⟩ | ⟨-, he⟩ <;> rw [he] at h <;> exact absurd rfl h

/-- A completion changes the state only from `PolledExecuting`, to the Complete state of its sign. -/
theorem completion_state_changed {len : Int} {s : State} (h : (s.completion len).state ≠ s.state) :
    s.state = .polledExecuting ∧
    ((0 < len ∧ (s.completion len).state = .completeDataIn ∧ (s.completion len).phase = .dataIn) ∨
      (len ≤ 0 ∧ (s.completion len).state = .completeDataOut ∧ (s.completion len).phase = .dataOut)) := by
  rcases completion_cases len s with ⟨hstate, hl, he⟩ | ⟨hstate, hl, he⟩ | ⟨-, he⟩
  · rw [he]; exact ⟨hstate, .inl ⟨hl, rfl, rfl⟩⟩
  · rw [he]; exact ⟨hstate, .inr ⟨hl, rfl, rfl⟩⟩
  · rw [he] at h; exact absurd rfl h

/-- Settles O54: of the six kinds of step, only device reset, a data-port access and a completion change the state, each as its
lemma says. -/
theorem stateChangesOnlyByTable : Obligations.StateChangesOnlyByTable := by
  intro s t hstep h
  rcases step_next_cases hstep with ⟨-, rfl⟩ | ⟨line, rest, i, hs, hl, hc⟩
  · exact absurd rfl h
  rcases hc with ⟨-, rfl⟩ | ⟨v, -, rfl⟩ | hport | ⟨rfl, rfl⟩ | ⟨len, rfl, -, hm, rfl⟩
  · exact absurd rfl h
  · exact absurd rfl h
  · rcases hport.state_changed h with ⟨hstate, ⟨v, rfl⟩, hpos, ht⟩ | ⟨rfl, hstate, hptr, hstart⟩
    · exact .inr (.inr (.inl ⟨hstate, ⟨v, line, rest, hs, hl⟩, hpos, ht⟩))
    · exact .inr (.inl ⟨⟨⟨line, rest, hs, hl⟩, hstate, hptr⟩, hstart⟩)
  · exact .inl ⟨⟨line, rest, hs, hl⟩, rfl, rfl⟩
  · obtain ⟨hstate, hc⟩ :=
      completion_state_changed (s := { s.takeLine rest with outstanding := s.outstanding.erase len }) h
    exact .inr (.inr (.inr ⟨hstate, len, ⟨line, rest, hs, hl⟩, hm, hc⟩))

/-! ## The phase (R266) -/

/-- A state of a run that stays in phase DataIn: the bookkeeping's invariants hold and no device reset is to come. -/
def LatchedDataIn (s : State) : Prop := s.AwaitInv ∧ s.phase = .dataIn ∧ Line.reset ∉ s.script

/-- Only a device reset and an awaited completion set the phase, and in phase DataIn no completion is awaited. -/
theorem step_keeps_latchedDataIn (s t : State) (h : LatchedDataIn s) (hstep : step s = .next t) : LatchedDataIn t := by
  obtain ⟨hinv, hphase, hreset⟩ := h
  have hscript : Line.reset ∉ t.script := step_script hstep ▸ mt List.mem_of_mem_tail hreset
  refine ⟨everyStepKeepsAwaitInvariants s t hinv hstep, ?_, hscript⟩
  rcases step_next_cases hstep with ⟨-, rfl⟩ | ⟨line, rest, i, hs, hl, hc⟩
  · exact hphase
  rcases hc with ⟨-, rfl⟩ | ⟨v, -, rfl⟩ | hport | ⟨rfl, -⟩ | ⟨len, -, -, -, rfl⟩
  · exact hphase
  · exact hphase
  · exact hport.keeps_phase_script.1.trans hphase
  · obtain rfl : line = .reset := by simpa using decodeLine_cases hl
    exact absurd (hs ▸ List.mem_cons_self) hreset
  · have hidle : s.state ≠ .polledExecuting := fun hexec => by simp [hinv.executing_phase hexec] at hphase
    rcases completion_cases len { s.takeLine rest with outstanding := s.outstanding.erase len } with
      ⟨hexec, -⟩ | ⟨hexec, -⟩ | ⟨-, he⟩
    · exact absurd hexec hidle
    · exact absurd hexec hidle
    · rw [he]; exact hphase

/-- Settles O57: the latch is kept by every step, so by every run, and the bookkeeping's invariants give the two states phase
DataOut. -/
theorem phaseLatchesUntilDeviceReset : Obligations.PhaseLatchesUntilDeviceReset := by
  intro n s t hinv hphase hreset hrun
  obtain ⟨htinv, htphase, -⟩ := run_keeps step_keeps_latchedDataIn n ⟨hinv, hphase, hreset⟩ hrun
  have hne : t.phase ≠ .dataOut := by simp [htphase]
  exact ⟨htphase, mt htinv.executing_phase hne, mt htinv.filling_phase hne⟩

/-! ## The clearing of the interrupt (R321) -/

/-- No command clears `INT`. -/
theorem runCommand_keeps_int {op : Opcode} {s t : State} (hrun : runCommand op s = .next t)
    (h : s.intPending = true) : t.intPending = true := by
  rcases runCommand_next_cases hrun with rfl | rfl | ⟨-, rfl⟩ | ⟨-, rfl⟩ | ⟨-, rfl⟩
  · exact h
  · exact h
  · exact h
  · rcases cmdSelect_cases s with ⟨d, -, he⟩ | ⟨-, he⟩ <;> rw [he]
    · exact getLsbD_setInt _
    · exact h
  · rcases cmdTransferInfo_cases s with ⟨d, -, he⟩ | ⟨-, he⟩
    · rw [he]
      rcases transferOn_cases s.nextLun (s.findLun d (unitNumber s)) with
        ⟨-, hu⟩ | ⟨_, -, -, hu⟩ | ⟨_, -, -, -, hu⟩ | ⟨_, -, -, -, hu⟩ <;> rw [hu] <;> exact h
    · rw [he]; exact h

/-- The one data-port access that clears `INT` is the read that reaches the SCSI status register. -/
theorem DataPort.keeps_int {s t : State} {i : Instr} (d : DataPort s i t) (h : s.intPending = true) :
    t.intPending = true ∨ (i = .dr ∧ s.ptr = Config.idxScsiStatus ∧ s.state ≠ .polledWaitingDataIn) := by
  cases d with
  | status hstate hptr => exact .inr ⟨rfl, hptr, hstate⟩
  | fetch b _ _ _ => exact .inl h
  | append v _ _ => exact .inl h
  | submit v _ _ => exact .inl h
  | quiet _ u _ hq =>
    obtain ⟨-, -, -, -, -, haux, -⟩ := quiet_fields hq
    exact .inl ((congrArg (BitVec.getLsbD · 7) haux).trans h)
  | command v u _ _ hrun =>
    have hkept : u.intPending = true := runCommand_keeps_int hrun h
    exact .inl hkept
  | pop _ => rcases fifoPop_cases s with ⟨b, rest, -, he⟩ | ⟨-, he⟩ <;> rw [he] <;> exact .inl h
  | push v _ => rcases fifoPush_cases v s with ⟨-, he⟩ | ⟨-, he⟩ <;> rw [he] <;> exact .inl h

/-- No completion clears `INT`. -/
theorem completion_keeps_int {s : State} (len : Int) (h : s.intPending = true) :
    (s.completion len).intPending = true := by
  rcases completion_cases len s with ⟨-, -, he⟩ | ⟨-, -, he⟩ | ⟨-, he⟩ <;> rw [he]
  · exact getLsbD_setInt _
  · exact getLsbD_setInt _
  · exact h

/-- Settles O56: of the six kinds of step only a data-port access can clear `INT`, and only the read of the SCSI status. -/
theorem interruptClearedOnlyByStatusRead : Obligations.InterruptClearedOnlyByStatusRead := by
  intro s t hstep hset hclear
  have hcleared : t.intPending ≠ true := ne_true_of_eq_false hclear
  rcases step_next_cases hstep with ⟨-, rfl⟩ | ⟨line, rest, i, hs, hl, hc⟩
  · exact absurd hset hcleared
  rcases hc with ⟨-, rfl⟩ | ⟨v, -, rfl⟩ | hport | ⟨-, rfl⟩ | ⟨len, -, -, -, rfl⟩
  · exact absurd hset hcleared
  · exact absurd hset hcleared
  · rcases hport.keeps_int hset with hkept | ⟨rfl, hptr, hstate⟩
    · exact absurd hkept hcleared
    · exact ⟨⟨line, rest, hs, hl⟩, hptr, hstate⟩
  · exact absurd hset hcleared
  · exact absurd (completion_keeps_int (s := { s.takeLine rest with outstanding := s.outstanding.erase len }) len hset) hcleared

/-! ## Faults and refusals -/

/-- Settles O49: the enabling condition of R300 fails. -/
theorem completionNotOutstandingIsRefused : Obligations.CompletionNotOutstandingIsRefused :=
  fun _ _ hm => if_neg (mt List.contains_iff_mem.mp hm)

/-- The instruction of a script line completes, or faults past the end of a transfer, or is a completion not outstanding. -/
theorem exec_line_cases {line : Line} {i : Instr} (s : State) (hl : decodeLine line = .ok i) :
    (∃ t, exec i s = .next t) ∨
    (i = .dr ∧ s.state = .polledWaitingDataIn ∧ (s.size ≤ s.pos ∨ s.buf.length ≤ s.pos) ∧
      exec i s = .fault .xferOutOfRange) ∨
    (∃ v, i = .dw v ∧ s.state = .polledWaitingDataOut ∧ s.size ≤ s.pos ∧ exec i s = .fault .xferOutOfRange) ∨
    (∃ len, line = .complete len ∧ len ∉ s.outstanding ∧ exec i s = .refused (.notOutstanding len)) := by
  rcases decodeLine_cases hl with rfl | rfl | ⟨v, rfl⟩ | ⟨v, rfl⟩ | ⟨-, rfl⟩ | ⟨len, hline, rfl⟩
  · exact .inl ⟨_, rfl⟩
  · rcases exec_dr_cases s with ⟨t, ht, -⟩ | ⟨hstate, hpos, hf⟩
    · exact .inl ⟨t, ht⟩
    · exact .inr (.inl ⟨rfl, hstate, hpos, hf⟩)
  · exact .inl ⟨_, rfl⟩
  · rcases exec_dw_cases v s with ⟨t, ht, -⟩ | ⟨hstate, hpos, hf⟩
    · exact .inl ⟨t, ht⟩
    · exact .inr (.inr (.inl ⟨v, rfl, hstate, hpos, hf⟩))
  · exact .inl ⟨_, rfl⟩
  · by_cases hm : len ∈ s.outstanding
    · exact .inl ⟨_, exec_busComplete hm⟩
    · exact .inr (.inr (.inr ⟨len, hline, hm, completionNotOutstandingIsRefused s len hm⟩))

/-- Settles O58: by R38 (c) the buffer is as long as the size and the cursor not past it, and by R38 (f) a buffer that is filled
has room or the size 0. -/
theorem faultOnlyPastTransferSize : Obligations.FaultOnlyPastTransferSize := by
  intro s f hinv hstep
  have hcursor := hinv.cursor_in_range
  have hlength := hinv.buffer_full_length
  rcases step_cases s with ⟨-, he⟩ | ⟨a, rest, -, -, he⟩ | ⟨line, rest, i, hs, hl, he⟩
  · rw [he] at hstep; cases hstep
  · rw [he] at hstep; cases hstep
  rw [he] at hstep
  rcases exec_line_cases (s.takeLine rest) hl with
    ⟨t, hx⟩ | ⟨rfl, hstate, hpos, hx⟩ | ⟨v, rfl, hstate, hpos, hx⟩ | ⟨len, -, -, hx⟩ <;> rw [hx] at hstep <;> cases hstep
  · simp only [State.takeLine_fields] at hstate hpos
    exact ⟨rfl, by omega, .inl ⟨hstate, line, rest, hs, hl⟩⟩
  · simp only [State.takeLine_fields] at hstate hpos
    obtain ⟨-, -, hroom⟩ := hinv.filling_is_bound hstate
    exact ⟨rfl, by omega, .inr ⟨hstate, by omega, v, line, rest, hs, hl⟩⟩

/-- Settles O59: a line that decodes is refused only as a completion not outstanding. -/
theorem refusalOnlyOutsideInterface : Obligations.RefusalOnlyOutsideInterface := by
  intro s r hstep
  rcases step_cases s with ⟨-, he⟩ | ⟨a, rest, hs, ha, he⟩ | ⟨line, rest, i, hs, hl, he⟩ <;> rw [he] at hstep
  · cases hstep
  · cases hstep; exact .inl ⟨rfl, a, rest, hs, ha⟩
  rcases exec_line_cases (s.takeLine rest) hl with
    ⟨t, hx⟩ | ⟨-, -, -, hx⟩ | ⟨v, -, -, -, hx⟩ | ⟨len, rfl, hm, hx⟩ <;> rw [hx] at hstep <;> cases hstep
  exact .inr ⟨len, rest, rfl, hs, hm⟩

/-! ## How a step begins, and the events -/

/-- Settles O5: an access of another width or offset is not admitted, so it has no word. -/
theorem otherAccessesAreRefused : Obligations.OtherAccessesAreRefused := by
  intro s a rest hs hother
  have hrejected : a.admitted = false := by
    rcases hother with hwidth | ⟨hoff0, hoff1⟩
    · simp [HostAccess.admitted, hwidth]
    · simp [HostAccess.admitted, Config.offAddr, Config.offData, hoff0, hoff1]
  rcases step_cases s with ⟨hnil, -⟩ | ⟨_, _, -, -, he⟩ | ⟨line, rest', i, hs', hl, -⟩
  · rw [hs] at hnil; cases hnil
  · exact he
  · rw [hs] at hs'; cases hs'
    simp [decodeLine, HostAccess.word?, hrejected] at hl

/-- Settles O6, by the law of a step that takes a line. -/
theorem stepRunsDecodedLine : Obligations.StepRunsDecodedLine :=
  fun _ _ _ _ hs hl => step_cons hs hl

/-- Settles O7: the other two cases of a step take a line. -/
theorem noLineNoChange : Obligations.NoLineNoChange := by
  intro s hs
  rcases step_cases s with ⟨-, he⟩ | ⟨a, rest, hs', -⟩ | ⟨line, rest, i, hs', -⟩
  · exact he
  · rw [hs] at hs'; cases hs'
  · rw [hs] at hs'; cases hs'

/-- Settles O45, by the definition of `DeviceReset`. -/
theorem deviceResetClearsStateAndBindings : Obligations.DeviceResetClearsStateAndBindings := fun _ => rfl

/-- Settles O46: `DeviceReset` writes constants. -/
theorem deviceResetIsIdempotent : Obligations.DeviceResetIsIdempotent :=
  fun s => ⟨s.deviceReset, rfl, rfl, rfl, rfl, rfl, rfl, rfl⟩

/-- Settles O47: the two clauses are the two awaited cases of a completion, told apart by the sign. -/
theorem completionEndsExecuting : Obligations.CompletionEndsExecuting := by
  intro s len hstate hm
  rw [exec_busComplete hm]
  rcases completion_cases len { s with outstanding := s.outstanding.erase len } with
    ⟨-, hpos, he⟩ | ⟨-, hneg, he⟩ | ⟨hstray, -⟩
  · exact ⟨fun _ => congrArg _ he, fun hneg => absurd hpos (Int.not_lt.mpr hneg)⟩
  · exact ⟨fun hpos => absurd hpos (Int.not_lt.mpr hneg), fun _ => congrArg _ he⟩
  · exact absurd hstate hstray

/-- Settles O48: outside `PolledExecuting` a completion is the stray case. -/
theorem strayCompletionIsLogged : Obligations.StrayCompletionIsLogged := by
  intro s len hstate hm
  rw [exec_busComplete hm]
  rcases completion_cases len { s with outstanding := s.outstanding.erase len } with
    ⟨hexec, -⟩ | ⟨hexec, -⟩ | ⟨-, he⟩
  · exact absurd hexec hstate
  · exact absurd hexec hstate
  · exact congrArg _ he

/-- Settles O50: every field of the reset state is written out, and each index with storage reads one of them. -/
theorem powerOnState : Obligations.PowerOnState := by
  refine ⟨⟨_, rfl, rfl⟩, rfl, fun p b hp => ?_, rfl, rfl, rfl, rfl, rfl, rfl, rfl, rfl, rfl, rfl, rfl, rfl, rfl, rfl⟩
  revert hp
  unfold State.x
  cases decodeIndex p <;> intro hp <;> cases hp <;> rfl

end Sys2Proof.Machine

/-! SUPPORT and PROOFS, family other: no rule reads the log or the trace of bus calls (R13, R310). -/

namespace Sys2Proof.Machine

/-! ## States that differ in the traces -/

/-- `s` with the log `l` and the trace of bus calls `c`. -/
def State.withTraces (l : List LogEvent) (c : List BusCall) (s : State) : State := { s with log := l, busTrace := c }

/-- `t` is `s` but for the traces. -/
def DifferInTraces (s t : State) : Prop := ∃ l c, t = s.withTraces l c

/-- The outcome `p` is `o` but for the traces of the next state. -/
def OutcomesDifferInTraces (o p : Host.Outcome State Fault Refusal) : Prop := ∃ l c, p = mapNext (State.withTraces l c) o

theorem OutcomesDifferInTraces.of_next {s t : State} (h : DifferInTraces s t) :
    OutcomesDifferInTraces (.next s) (.next t) := by
  obtain ⟨l, c, rfl⟩ := h
  exact ⟨l, c, rfl⟩

/-- The pointer advance writes no trace. -/
theorem OutcomesDifferInTraces.ptrAdvance {o p : Host.Outcome State Fault Refusal} (h : OutcomesDifferInTraces o p)
    (i : Index) : OutcomesDifferInTraces (mapNext (State.ptrAdvance i) o) (mapNext (State.ptrAdvance i) p) := by
  obtain ⟨l, c, rfl⟩ := h
  cases o <;> exact ⟨l, c, rfl⟩

/-! ## The shared operations: what each tests is no trace, and in each branch the traces are only appended to -/

section
variable (l : List LogEvent) (c : List BusCall) (s : State)

theorem fifoPop_withTraces : DifferInTraces s.fifoPop (s.withTraces l c).fifoPop := by
  have hfifos : (s.withTraces l c).fifo = s.fifo := rfl
  unfold State.fifoPop
  rw [hfifos]
  cases s.fifo with
  | nil => exact ⟨_, _, rfl⟩
  | cons b rest => exact ⟨_, _, rfl⟩

theorem fifoPush_withTraces (b : Byte) : DifferInTraces (s.fifoPush b) ((s.withTraces l c).fifoPush b) := by
  unfold State.fifoPush
  by_cases h : s.fifo.length < Config.fifoCap
  · simp only [State.withTraces, h, if_true]; exact ⟨_, _, rfl⟩
  · simp only [State.withTraces, h, if_false]; exact ⟨_, _, rfl⟩

theorem xferAppend_withTraces (v : Byte) :
    OutcomesDifferInTraces (xferAppend v s) (xferAppend v (s.withTraces l c)) := by
  unfold xferAppend
  by_cases h : s.pos < s.size
  · by_cases hlast : s.pos + 1 = s.size
    · simp only [State.withTraces, h, hlast, if_true]; exact ⟨_, _, rfl⟩
    · simp only [State.withTraces, h, hlast, if_true, if_false]; exact ⟨_, _, rfl⟩
  · simp only [State.withTraces, h, if_false]; exact ⟨l, c, rfl⟩

theorem xferFetch_withTraces : OutcomesDifferInTraces (xferFetch s) (xferFetch (s.withTraces l c)) := by
  unfold xferFetch
  by_cases h : s.pos < s.size
  · cases hb : s.buf[s.pos]? with
    | none => simp only [State.withTraces, h, hb, if_true]; exact ⟨l, c, rfl⟩
    | some b => simp only [State.withTraces, h, hb, if_true]; exact ⟨_, _, rfl⟩
  · simp only [State.withTraces, h, if_false]; exact ⟨l, c, rfl⟩

theorem completion_withTraces (len : Int) : DifferInTraces (s.completion len) ((s.withTraces l c).completion len) := by
  unfold State.completion
  by_cases h : s.state = .polledExecuting
  · cases hd : directionOf len with
    | dataOut => simp only [State.withTraces, h, if_true]; exact ⟨_, _, rfl⟩
    | dataIn => simp only [State.withTraces, h, if_true]; exact ⟨_, _, rfl⟩
  · simp only [State.withTraces, h, if_false]; exact ⟨_, _, rfl⟩

/-- The bus's answer does not depend on the traces. -/
theorem cmdSelect_withTraces : DifferInTraces s.cmdSelect (s.withTraces l c).cmdSelect := by
  have hanswer : (s.withTraces l c).nextDevice = s.nextDevice := rfl
  unfold State.cmdSelect
  rw [hanswer]
  cases s.nextDevice with
  | none => exact ⟨_, _, rfl⟩
  | some h => exact ⟨_, _, rfl⟩

theorem transferOn_withTraces (u : Option LunHandle) :
    DifferInTraces (s.transferOn u) ((s.withTraces l c).transferOn u) := by
  have hmodes : dmaMode (s.withTraces l c) = dmaMode s := rfl
  have hphases : (s.withTraces l c).phase = s.phase := rfl
  cases u with
  | none => exact ⟨_, _, rfl⟩
  | some lun =>
    unfold State.transferOn
    by_cases hmode : dmaMode s = Config.dmaModePolled
    · cases hphase : s.phase with
      | dataOut =>
        simp only [hmodes, hphases, hmode, hphase, if_true, startPolledOut_eq]
        exact ⟨_, _, rfl⟩
      | dataIn =>
        simp only [hmodes, hphases, hmode, hphase, if_true, startPolledIn_eq]
        exact ⟨_, _, rfl⟩
    · simp only [hmodes, hmode, if_false]
      exact ⟨_, _, rfl⟩

theorem cmdTransferInfo_withTraces : DifferInTraces s.cmdTransferInfo (s.withTraces l c).cmdTransferInfo := by
  have hdevs : (s.withTraces l c).curDev = s.curDev := rfl
  unfold State.cmdTransferInfo
  rw [hdevs]
  cases s.curDev with
  | none => exact ⟨_, _, rfl⟩
  | some d => exact transferOn_withTraces l _ (s.findLun d (unitNumber s)) s.nextLun

/-! ## Commands, registers, ports and steps -/

/-- Every command but a Select and Transfer-Info appends to a trace or leaves both, without a test. -/
theorem runCommand_withTraces (op : Opcode) :
    OutcomesDifferInTraces (runCommand op s) (runCommand op (s.withTraces l c)) := by
  unfold runCommand
  cases decodeCommand op
  case selAtn | sel | selAtnXfer | selXfer => exact .of_next (cmdSelect_withTraces l c s)
  case transferInfo => exact .of_next (cmdTransferInfo_withTraces l c s)
  all_goals exact ⟨_, _, rfl⟩

/-- Every register action but a command and the queue's two appends to the log or leaves it, without a test. -/
theorem registerAction_withTraces (p : Index) (a : RegAccess) :
    OutcomesDifferInTraces (registerAction p a s) (registerAction p a (s.withTraces l c)) := by
  unfold registerAction
  cases decodeIndex p <;> cases a
  case command.write v => exact runCommand_withTraces l c { s with command := v } v
  case data.read => exact .of_next (fifoPop_withTraces l c s)
  case data.write v => exact .of_next (fifoPush_withTraces l c s v)
  all_goals exact ⟨_, _, rfl⟩

theorem exec_dr_withTraces : OutcomesDifferInTraces (exec .dr s) (exec .dr (s.withTraces l c)) := by
  by_cases h : s.state = .polledWaitingDataIn
  · rw [exec_dr_intercepted h, exec_dr_intercepted (s := s.withTraces l c) h]
    exact (xferFetch_withTraces l c s).ptrAdvance s.ptr
  · rw [exec_dr_register h, exec_dr_register (s := s.withTraces l c) h]
    exact (registerAction_withTraces l c s s.ptr .read).ptrAdvance s.ptr

theorem exec_dw_withTraces (v : Byte) : OutcomesDifferInTraces (exec (.dw v) s) (exec (.dw v) (s.withTraces l c)) := by
  by_cases h : s.state = .polledWaitingDataOut
  · rw [exec_dw_intercepted v h, exec_dw_intercepted (s := s.withTraces l c) v h]
    exact (xferAppend_withTraces l c s v).ptrAdvance s.ptr
  · rw [exec_dw_register v h, exec_dw_register (s := s.withTraces l c) v h]
    exact (registerAction_withTraces l c s s.ptr (.write v)).ptrAdvance s.ptr

theorem exec_busComplete_withTraces (len : Int) :
    OutcomesDifferInTraces (exec (.busComplete len) s) (exec (.busComplete len) (s.withTraces l c)) := by
  by_cases h : len ∈ s.outstanding
  · rw [exec_busComplete h, exec_busComplete (s := s.withTraces l c) h]
    exact .of_next (completion_withTraces l c { s with outstanding := s.outstanding.erase len } len)
  · rw [completionNotOutstandingIsRefused s len h, completionNotOutstandingIsRefused (s.withTraces l c) len h]
    exact ⟨l, c, rfl⟩

/-- A step reads no trace: the line it takes and what that line does are the same. -/
theorem step_withTraces : OutcomesDifferInTraces (step s) (step (s.withTraces l c)) := by
  have hscripts : (s.withTraces l c).script = s.script := rfl
  unfold step
  rw [hscripts]
  cases s.script with
  | nil => exact ⟨l, c, rfl⟩
  | cons line rest =>
    cases hl : decodeLine line with
    | error e => simp only [hl]; exact ⟨l, c, rfl⟩
    | ok i =>
      simp only [hl]
      rcases decodeLine_cases hl with rfl | rfl | ⟨v, rfl⟩ | ⟨v, rfl⟩ | ⟨-, rfl⟩ | ⟨len, -, rfl⟩
      · exact ⟨l, c, rfl⟩
      · exact exec_dr_withTraces l c (s.takeLine rest)
      · exact ⟨l, c, rfl⟩
      · exact exec_dw_withTraces l c (s.takeLine rest) v
      · exact ⟨l, c, rfl⟩
      · exact exec_busComplete_withTraces l c (s.takeLine rest) len

end

/-- Settles O60: the outcomes of the two steps differ in the traces of the next state alone. -/
theorem tracesAreInvisible : Obligations.TracesAreInvisible := by
  intro s log calls
  obtain ⟨l, c, he⟩ := step_withTraces log calls s
  have hstep : step { s with log := log, busTrace := calls } = mapNext (State.withTraces l c) (step s) := he
  refine ⟨fun t ht => ⟨t.withTraces l c, ?_, rfl⟩, fun f hf => ?_, fun r hr => ?_⟩
  · rw [hstep, ht]; rfl
  · rw [hstep, hf]; rfl
  · rw [hstep, hr]; rfl

end Sys2Proof.Machine

/-! SUPPORT and PROOFS, family other: the ports (R120 to R124), the register file (R125 to R153) and the queue's window (R150, R180). -/

namespace Sys2Proof

/-- The rows of the index map whose register is plain storage (R30): the twelve one-byte registers and the eleven lanes. -/
def IndexRow.plain : IndexRow → Bool
  | .scsiStatus | .command | .data | .auxStatus => false
  | .unknown1A | .unknown1B | .unknown1C | .unknown1D | .unknown1E => false
  | .unknown20_3F _ | .unknown40_7F _ | .unknown _ => false
  | _ => true

end Sys2Proof

namespace Sys2Proof.Machine

/-! ## The plain registers (R30) -/

/-- The members of the two groups of plain registers are the plain rows, each with its instruction and index. -/
theorem plainRow_of_mem {r : (RegAccess → Instr) × Index} (h : r ∈ byteRegisters ++ laneRegisters) :
    ∃ row : IndexRow, row.plain = true ∧ r = (row.instr, row.index) := by
  refine ⟨decodeIndex r.2, ?_⟩
  simp only [byteRegisters, laneRegisters, List.cons_append, List.nil_append, List.mem_cons, List.not_mem_nil, or_false] at h
  rcases h with rfl | rfl | rfl | rfl | rfl | rfl | rfl | rfl | rfl | rfl | rfl | rfl | rfl | rfl | rfl | rfl | rfl | rfl |
    rfl | rfl | rfl | rfl | rfl
  all_goals exact ⟨rfl, rfl⟩

/-- A read of a plain register returns the byte its index names and changes nothing else. -/
theorem plainRow_read {row : IndexRow} (h : row.plain = true) (s : State) :
    ∃ b, s.x row.index = some b ∧ exec (row.instr .read) s = .next { s with result := some b } := by
  cases row <;> try exact absurd h Bool.false_ne_true
  all_goals exact ⟨_, rfl, rfl⟩

/-- A write of a plain register completes and changes nothing outside the plain registers. -/
theorem plainRow_write {row : IndexRow} (h : row.plain = true) (s : State) (v : Byte) :
    ∃ t, exec (row.instr (.write v)) s = .next t ∧ t.withoutPlainRegisters = s.withoutPlainRegisters := by
  cases row <;> try exact absurd h Bool.false_ne_true
  all_goals exact ⟨_, rfl, rfl⟩

/-- After the write of a plain register its index names the byte written. -/
theorem plainRow_write_same {row : IndexRow} (h : row.plain = true) {s t : State} {v : Byte}
    (hw : exec (row.instr (.write v)) s = .next t) : t.x row.index = some v := by
  cases row <;> try exact absurd h Bool.false_ne_true
  case totalCylMsb | totalCylLsb | logAddrMsb | logAddr2nd | logAddr3rd | logAddrLsb | cylNumberMsb | cylNumberLsb | tcMsb |
    tcMid | tcLsb => cases hw; exact congrArg some (getLane_putLane_same _ _ v (by decide))
  all_goals cases hw; rfl

/-- After the write of a plain register every other index names the byte it named. -/
theorem plainRow_write_other {row : IndexRow} (h : row.plain = true) {s t : State} {v : Byte}
    (hw : exec (row.instr (.write v)) s = .next t) {j : Index} (hj : j ≠ row.index) : t.x j = s.x j := by
  have hrow : decodeIndex j ≠ row := fun he => hj (by rw [← he, index_decodeIndex])
  unfold State.x
  revert hrow
  cases row <;> try exact absurd h Bool.false_ne_true
  all_goals
    cases hw
    cases decodeIndex j <;> intro hrow <;>
      first
      | rfl
      | exact absurd rfl hrow
      | exact congrArg some (getLane_putLane_other _ _ _ v (by decide) (by decide))

/-- What a plain register does: a read returns its byte, a write stores it, and nothing else changes. -/
theorem plainRow_storesAndReadsBack {row : IndexRow} (h : row.plain = true) (s : State) :
    (∃ b, s.x row.index = some b ∧ exec (row.instr .read) s = .next { s with result := some b }) ∧
    (∀ v, ∃ t, exec (row.instr (.write v)) s = .next t ∧ t.x row.index = some v ∧
      (∀ j, j ≠ row.index → t.x j = s.x j) ∧ t.withoutPlainRegisters = s.withoutPlainRegisters) := by
  refine ⟨plainRow_read h s, fun v => ?_⟩
  obtain ⟨t, hw, hframe⟩ := plainRow_write h s v
  exact ⟨t, hw, plainRow_write_same h hw, fun j hj => plainRow_write_other h hw hj, hframe⟩

/-- Settles O17: the one-byte registers are plain rows. -/
theorem byteRegistersStoreAndReadBack : Obligations.ByteRegistersStoreAndReadBack := by
  intro r hr s
  obtain ⟨row, hplain, rfl⟩ := plainRow_of_mem (List.mem_append_left _ hr)
  exact plainRow_storesAndReadsBack hplain s

/-- Settles O18: the byte lanes are plain rows. -/
theorem laneRegistersStoreAndReadBack : Obligations.LaneRegistersStoreAndReadBack := by
  intro r hr s
  obtain ⟨row, hplain, rfl⟩ := plainRow_of_mem (List.mem_append_right _ hr)
  exact plainRow_storesAndReadsBack hplain s

/-- A command changes no plain register. -/
theorem CommandFrame.x_plain {s t : State} (h : CommandFrame s t) {row : IndexRow} (hplain : row.plain = true) :
    t.x row.index = s.x row.index := by
  have hx : t.x row.index = _ := congrArg (State.x · row.index) h
  cases row <;> try exact absurd hplain Bool.false_ne_true
  all_goals exact hx

/-- Settles O38: every command stays in its frame, and the frame holds none of these fields. -/
theorem commandsLeaveRegisterFileAlone : Obligations.CommandsLeaveRegisterFileAlone := by
  intro op s t h
  rw [exec_cmd] at h
  have hframe := runCommand_frame h
  obtain ⟨hptr, hfifo, hphase, hcommand, hresult, -⟩ := hframe.fields
  refine ⟨hptr, hfifo, hphase, hcommand, hresult, fun r hr => ?_⟩
  obtain ⟨row, hplain, rfl⟩ := plainRow_of_mem hr
  exact hframe.x_plain hplain

/-! ## The ports -/

/-- The byte read at the address port in numbers (R6, R120). -/
theorem State.auxByte_eq (s : State) : s.auxByte = s.auxStatus ||| (if s.fifo.length < 12 then 0x01#8 else 0x00#8) := by
  simp only [State.auxByte, s.dbr_iff]

/-- Settles O8: `AR` answers with the auxiliary status byte. -/
theorem addressPortReadReturnsAuxiliaryStatus : Obligations.AddressPortReadReturnsAuxiliaryStatus := by
  intro s
  rw [← s.auxByte_eq]
  rfl

/-- Settles O22: both reads answer with the auxiliary status byte. -/
theorem auxStatusIndexReadsAsAddressPort : Obligations.AuxStatusIndexReadsAsAddressPort :=
  fun s => ⟨rfl, addressPortReadReturnsAuxiliaryStatus s⟩

/-- Settles O10: the pointer loaded is the low seven bits. -/
theorem addressPortWriteLoadsPointer : Obligations.AddressPortWriteLoadsPointer :=
  fun _ v => ⟨loadIndex v, BitVec.extractLsb'_toNat 0 7 v, rfl⟩

/-- Settles O21, by the definitions of the two rows. -/
theorem statusRegistersIgnoreWrites : Obligations.StatusRegistersIgnoreWrites :=
  fun _ _ => ⟨rfl, rfl⟩

/-- Settles O11: the register action always completes, and the pointer advances after it. -/
theorem dataPortReadRunsRegisterRead : Obligations.DataPortReadRunsRegisterRead := by
  intro s hstate
  obtain ⟨t, ht, -⟩ := registerAction_cases s.ptr .read s
  refine ⟨t, (exec_regidx _ _ _).trans ht, ?_⟩
  rw [exec_dr_register hstate, ht]
  rfl

/-- Settles O12: the register action always completes, and the pointer advances after it. -/
theorem dataPortWriteRunsRegisterWrite : Obligations.DataPortWriteRunsRegisterWrite := by
  intro s v hstate
  obtain ⟨t, ht, -⟩ := registerAction_cases s.ptr (.write v) s
  refine ⟨t, (exec_regidx _ _ _).trans ht, ?_⟩
  rw [exec_dw_register v hstate, ht]
  rfl

/-- A data-port access that completes is one of the cases of `DataPort`. -/
theorem dataPort_of_exec {s t : State} {i : Instr} (hi : i = .dr ∨ ∃ v, i = .dw v) (h : exec i s = .next t) :
    DataPort s i t := by
  rcases hi with rfl | ⟨v, rfl⟩
  · rcases exec_dr_cases s with ⟨u, hu, hd⟩ | ⟨-, -, hf⟩
    · rw [hu] at h; cases h; exact hd
    · rw [hf] at h; cases h
  · rcases exec_dw_cases v s with ⟨u, hu, hd⟩ | ⟨-, -, hf⟩
    · rw [hu] at h; cases h; exact hd
    · rw [hf] at h; cases h

/-- Settles O13: whichever case it was, the pointer has advanced from where it was. -/
theorem dataPortAccessAdvancesPointer : Obligations.DataPortAccessAdvancesPointer := by
  intro s t i hi h
  rw [(dataPort_of_exec hi h).ptr_eq, toNat_nextPtr]

/-! ## Lines of a script -/

/-- A step that takes a line `AW v`. -/
theorem step_aw {s : State} {v : Byte} {rest : List Line} (hs : s.script = .aw v :: rest) :
    step s = .next { s.takeLine rest with ptr := loadIndex v } :=
  step_cons hs (decodeLine_aw v)

/-- A step that takes a line `DR` which no intercept takes. -/
theorem step_dr {s u : State} {rest : List Line} (hs : s.script = .dr :: rest) (hstate : s.state ≠ .polledWaitingDataIn)
    (hread : registerAction s.ptr .read (s.takeLine rest) = .next u) : step s = .next (u.ptrAdvance s.ptr) := by
  rw [step_cons hs decodeLine_dr, exec_dr_register (s := s.takeLine rest) hstate]
  exact congrArg (mapNext (State.ptrAdvance s.ptr)) hread

/-- A step that takes a line `DW v` which no intercept takes. -/
theorem step_dw {s u : State} {v : Byte} {rest : List Line} (hs : s.script = .dw v :: rest)
    (hstate : s.state ≠ .polledWaitingDataOut) (hwrite : registerAction s.ptr (.write v) (s.takeLine rest) = .next u) :
    step s = .next (u.ptrAdvance s.ptr) := by
  rw [step_cons hs (decodeLine_dw v), exec_dw_register (s := s.takeLine rest) v hstate]
  exact congrArg (mapNext (State.ptrAdvance s.ptr)) hwrite

/-- A run in two parts. -/
theorem run_add {m : Nat} (n : Nat) {s u : State} (h : Sys2Proof.core.run m s = .next u) :
    Sys2Proof.core.run (m + n) s = Sys2Proof.core.run n u := by
  induction m generalizing s with
  | zero => cases h; rw [Nat.zero_add]
  | succ m ih =>
    obtain ⟨w, hw, hrest⟩ := run_succ_next h
    rw [Nat.succ_add, run_next hw]
    exact ih hrest

/-! ## Sweeps over the register file (R153, R361) -/

/-- Where the pointer stands has no part in what the indices name. -/
theorem x_ptrAdvance (s : State) (p j : Index) : (s.ptrAdvance p).x j = s.x j := by
  unfold State.x
  rfl

/-- What the indices name is read from the state alone, not from the script or the returned byte. -/
theorem x_takeLine (s : State) (rest : List Line) (j : Index) : (s.takeLine rest).x j = s.x j := by
  unfold State.x
  rfl

theorem x_answer (s : State) (b : Byte) (j : Index) : (s.answer b).x j = s.x j := by
  unfold State.x
  rfl

theorem x_loadPtr (s : State) (p j : Index) : ({ s with ptr := p } : State).x j = s.x j := by
  unfold State.x
  rfl

/-- The acknowledge changes what the auxiliary status index names, and no other. -/
theorem x_irqAck (s : State) {j : Index} (hj : j ≠ Config.idxAuxStatus) : s.irqAck.x j = s.x j := by
  have hrow : decodeIndex j ≠ .auxStatus := fun he => hj (by rw [← index_decodeIndex j, he]; rfl)
  unfold State.x
  revert hrow
  cases decodeIndex j
  case auxStatus => exact fun hrow => absurd rfl hrow
  all_goals exact fun _ => rfl

/-- A line `DR` at a plain register or at the SCSI status returns the byte the pointer names and changes what no index but the
auxiliary status names. -/
theorem step_dr_stored {s : State} {rest : List Line} (hs : s.script = .dr :: rest) (hstate : s.state ≠ .polledWaitingDataIn)
    (hp : (decodeIndex s.ptr).plain = true ∨ s.ptr = Config.idxScsiStatus) :
    ∃ t, step s = .next t ∧ t.script = rest ∧ t.state = s.state ∧ t.ptr = nextPtr s.ptr ∧ t.result = s.x s.ptr ∧
      ∀ j, j ≠ Config.idxAuxStatus → t.x j = s.x j := by
  rcases hp with hplain | hptr
  · obtain ⟨b, hb, hread⟩ := plainRow_read hplain (s.takeLine rest)
    rw [index_decodeIndex, x_takeLine] at hb
    refine ⟨_, step_dr hs hstate ((exec_regidx _ _ _).symm.trans hread), rfl, rfl, rfl, hb.symm, fun j _ => ?_⟩
    exact (x_ptrAdvance _ _ j).trans ((x_answer _ b j).trans (x_takeLine s rest j))
  · have hread : registerAction s.ptr .read (s.takeLine rest) = .next ((s.takeLine rest).irqAck.answer s.scsiStatus) := by
      rw [hptr]; rfl
    refine ⟨_, step_dr hs hstate hread, rfl, rfl, rfl, by rw [hptr]; rfl, fun j hj => ?_⟩
    exact (x_ptrAdvance _ _ j).trans ((x_answer _ _ j).trans ((x_irqAck _ hj).trans (x_takeLine s rest j)))

/-- Settles O14: the pointer after an access is the advance of the pointer before it, which sticks; and the sweep reads the
destination id, the source id, then the SCSI status at the pointer that sticks. -/
theorem sweepSticksAtScsiStatus : Obligations.SweepSticksAtScsiStatus := by
  refine ⟨fun s t i hi hp h => ?_, fun _ s rest hstate hs => ?_⟩
  · rw [(dataPort_of_exec hi h).ptr_eq, nextPtr_of_status hp]
  obtain ⟨t1, h1, hs1, hst1, hp1, hx1⟩ : ∃ t, step s = .next t ∧ t.script = .dr :: .dr :: .dr :: .dr :: rest ∧
      t.state = s.state ∧ t.ptr = Config.idxDestinationId ∧ ∀ j, t.x j = s.x j :=
    ⟨_, step_aw hs, rfl, rfl, rfl, fun j => (x_loadPtr _ _ j).trans (x_takeLine s _ j)⟩
  obtain ⟨t2, h2, hs2, hst2, hp2, hr2, hx2⟩ := step_dr_stored hs1 (hst1 ▸ hstate) (.inl (by rw [hp1]; rfl))
  replace hp2 : t2.ptr = Config.idxSourceId := by rw [hp2, hp1]; rfl
  obtain ⟨t3, h3, hs3, hst3, hp3, hr3, hx3⟩ :=
    step_dr_stored hs2 (hst2 ▸ hst1 ▸ hstate) (.inl (by rw [hp2]; rfl))
  replace hp3 : t3.ptr = Config.idxScsiStatus := by rw [hp3, hp2]; rfl
  obtain ⟨t4, h4, hs4, hst4, hp4, hr4, hx4⟩ := step_dr_stored hs3 (hst3 ▸ hst2 ▸ hst1 ▸ hstate) (.inr hp3)
  replace hp4 : t4.ptr = Config.idxScsiStatus := by rw [hp4, hp3]; rfl
  obtain ⟨t5, h5, -, -, hp5, hr5, -⟩ := step_dr_stored hs4 (hst4 ▸ hst3 ▸ hst2 ▸ hst1 ▸ hstate) (.inr hp4)
  replace hp5 : t5.ptr = Config.idxScsiStatus := by rw [hp5, hp4]; rfl
  have hrun2 : Sys2Proof.core.run 2 s = .next t2 := (run_next h1).trans (run_one h2)
  have hrun3 : Sys2Proof.core.run 3 s = .next t3 := (run_add 1 hrun2).trans (run_one h3)
  have hrun4 : Sys2Proof.core.run 4 s = .next t4 := (run_add 1 hrun3).trans (run_one h4)
  have hrun5 : Sys2Proof.core.run 5 s = .next t5 := (run_add 1 hrun4).trans (run_one h5)
  refine ⟨t2, t3, t4, t5, hrun2, ?_, hrun3, ?_, hp3, hrun4, ?_, hp4, hrun5, ?_, hp5⟩
  · rw [hr2, hp1, hx1]; rfl
  · rw [hr3, hp2, hx2 _ (by decide), hx1]; rfl
  · rw [hr4, hp3, hx3 _ (by decide), hx2 _ (by decide), hx1]; rfl
  · rw [hr5, hp4, hx4 _ (by decide), hx3 _ (by decide), hx2 _ (by decide), hx1]; rfl

/-- Below the SCSI status index every index is a plain register's, and the pointer goes up. -/
theorem plain_of_lt_scsiStatus {p : Index} (h : p.toNat < Config.idxScsiStatus.toNat) :
    (decodeIndex p).plain = true ∧ nextPtr p = p + 1#7 ∧ (nextPtr p).toNat = p.toNat + 1 := by
  revert p; decide

/-- A line `DW v` at a plain register stores the byte at the index the pointer names, and at no other. -/
theorem step_dw_stored {s : State} {v : Byte} {rest : List Line} (hs : s.script = .dw v :: rest)
    (hstate : s.state ≠ .polledWaitingDataOut) (hplain : (decodeIndex s.ptr).plain = true) :
    ∃ t, step s = .next t ∧ t.script = rest ∧ t.state = s.state ∧ t.ptr = nextPtr s.ptr ∧ t.x s.ptr = some v ∧
      (∀ j, j ≠ s.ptr → t.x j = s.x j) ∧ t.log = s.log ∧ t.busTrace = s.busTrace := by
  obtain ⟨-, hwrite⟩ := plainRow_storesAndReadsBack hplain (s.takeLine rest)
  obtain ⟨u, hu, hsame, hother, hframe⟩ := hwrite v
  rw [index_decodeIndex] at hsame hother
  refine ⟨u.ptrAdvance s.ptr, step_dw hs hstate ((exec_regidx _ _ _).symm.trans hu), (congrArg State.script hframe :),
    (congrArg State.state hframe :), rfl, (x_ptrAdvance _ _ _).trans hsame, fun j hj => ?_, (congrArg State.log hframe :),
    (congrArg State.busTrace hframe :)⟩
  exact (x_ptrAdvance _ _ j).trans ((hother j hj).trans (x_takeLine s rest j))

/-- Settles O15, by induction on the bytes: the first write stores at the pointer, and the sweep from the next index does not come
back to it. -/
theorem writeSweepVisitsRegistersInOrder : Obligations.WriteSweepVisitsRegistersInOrder := by
  intro _ bytes
  induction bytes with
  | nil =>
    intro s rest _ hs _
    exact ⟨s, rfl, hs, rfl, rfl, fun k hk => absurd hk (Nat.not_lt_zero k), fun j _ => rfl, rfl, rfl⟩
  | cons b bytes ih =>
    intro s rest hstate hs hfit
    rw [List.length_cons] at hfit
    obtain ⟨hplain, hnext, hnextNat⟩ := plain_of_lt_scsiStatus (p := s.ptr) (by omega)
    obtain ⟨u, hu, hsu, hstu, hpu, hsame, hother, hlogu, hbusu⟩ := step_dw_stored hs hstate hplain
    have hpuNat : u.ptr.toNat = s.ptr.toNat + 1 := hpu ▸ hnextNat
    obtain ⟨t, ht, hst, hstt, hpt, hin, hout, hlogt, hbust⟩ := ih u rest (hstu ▸ hstate) hsu (by omega)
    refine ⟨t, (run_next hu).trans ht, hst, hstt.trans hstu, ?_, fun k hk => ?_, fun j hj => ?_, hlogt.trans hlogu,
      hbust.trans hbusu⟩
    · rw [hpt, hpuNat, List.length_cons]; omega
    · cases k with
      | zero =>
        have hstart : s.ptr + BitVec.ofNat 7 0 = s.ptr := BitVec.add_zero _
        rw [hstart, hout s.ptr (.inl (by omega)), hsame]
        rfl
      | succ k =>
        have hshift : s.ptr + BitVec.ofNat 7 (k + 1) = u.ptr + BitVec.ofNat 7 k := by
          rw [hpu, hnext, Nat.add_comm k 1, BitVec.ofNat_add, BitVec.add_assoc]
        rw [hshift, hin k (Nat.lt_of_succ_lt_succ hk), List.getElem?_cons_succ]
    · rw [List.length_cons] at hj
      rw [hout j (by omega), hother j (by rintro rfl; omega)]

/-! ## The command register, the queue's window and the unknown indices -/

/-- Settles O23: the write stores the opcode and runs it, and a command always completes. -/
theorem commandRegisterRunsOpcode : Obligations.CommandRegisterRunsOpcode := by
  refine fun s => ⟨rfl, fun op => ?_⟩
  obtain ⟨t, ht, -⟩ := runCommand_cases op { s with command := op }
  exact ⟨t, (exec_cmd _ _).trans ht, (exec_idxCommand_write op s).trans ht⟩

/-- A read at the data index is a pop of the byte queue (R150). -/
theorem exec_idxData_read (s : State) : exec (.idxData .read) s = .next s.fifoPop := rfl

/-- Settles O25: the two clauses are the two cases of a pop. -/
theorem dataRegisterReadPops : Obligations.DataRegisterReadPops := by
  intro s
  rw [exec_idxData_read]
  rcases fifoPop_cases s with ⟨b, rest, hfifo, he⟩ | ⟨hfifo, he⟩
  · refine ⟨fun b' rest' hfifo' => ?_, fun hnil => ?_⟩
    · rw [hfifo] at hfifo'; cases hfifo'; exact congrArg _ he
    · rw [hfifo] at hnil; cases hnil
  · refine ⟨fun b' rest' hfifo' => ?_, fun _ => congrArg _ he⟩
    rw [hfifo] at hfifo'; cases hfifo'

/-- The byte of an index loads that index. -/
theorem loadIndex_setWidth (i : Index) : loadIndex (i.setWidth 8) = i := by
  revert i; decide

/-- The line that loads an index points there. -/
theorem step_point {s : State} {i : Index} {rest : List Line} (hs : s.script = Script.point i :: rest) :
    step s = .next { s.takeLine rest with ptr := i } := by
  rw [step_aw hs, loadIndex_setWidth]

/-- `PUT b` while there is room appends `b` to the queue. -/
theorem run_put {s : State} {b : Byte} {rest : List Line} (hs : s.script = Script.put b ++ rest)
    (hstate : s.state ≠ .polledWaitingDataOut) (hroom : s.fifo.length < 12) :
    ∃ t, Sys2Proof.core.run 2 s = .next t ∧ t.script = rest ∧ t.state = s.state ∧ t.fifo = s.fifo ++ [b] ∧ t.log = s.log := by
  obtain ⟨u, hu, hsu, hpu, hstu, hfu, hlu⟩ : ∃ u, step s = .next u ∧ u.script = .dw b :: rest ∧ u.ptr = Config.idxData ∧
      u.state = s.state ∧ u.fifo = s.fifo ∧ u.log = s.log := ⟨_, step_point hs, rfl, rfl, rfl, rfl, rfl⟩
  have hwrite : registerAction u.ptr (.write b) (u.takeLine rest) = .next ((u.takeLine rest).fifoPush b) := by rw [hpu]; rfl
  refine ⟨_, (run_next hu).trans (run_one (step_dw hsu (hstu ▸ hstate) hwrite)), ?_⟩
  rcases fifoPush_cases b (u.takeLine rest) with ⟨-, he⟩ | ⟨hfull, -⟩
  · rw [he]; exact ⟨rfl, hstu, congrArg (· ++ [b]) hfu, hlu⟩
  · have hfull' : 12 ≤ s.fifo.length := hfu ▸ hfull
    omega

/-- `GET` takes the head of the queue. -/
theorem run_get {s : State} {b : Byte} {tail : List Byte} {rest : List Line} (hs : s.script = Script.get ++ rest)
    (hstate : s.state ≠ .polledWaitingDataIn) (hfifo : s.fifo = b :: tail) :
    ∃ t, Sys2Proof.core.run 2 s = .next t ∧ t.script = rest ∧ t.state = s.state ∧ t.fifo = tail ∧ t.result = some b ∧
      t.log = s.log := by
  obtain ⟨u, hu, hsu, hpu, hstu, hfu, hlu⟩ : ∃ u, step s = .next u ∧ u.script = .dr :: rest ∧ u.ptr = Config.idxData ∧
      u.state = s.state ∧ u.fifo = b :: tail ∧ u.log = s.log := ⟨_, step_point hs, rfl, rfl, rfl, hfifo, rfl⟩
  have hread : registerAction u.ptr .read (u.takeLine rest) = .next (u.takeLine rest).fifoPop := by rw [hpu]; rfl
  refine ⟨_, (run_next hu).trans (run_one (step_dr hsu (hstu ▸ hstate) hread)), ?_⟩
  rcases fifoPop_cases (u.takeLine rest) with ⟨b', tail', hcons, he⟩ | ⟨hnil, -⟩
  · obtain ⟨rfl, rfl⟩ : b = b' ∧ tail = tail' := List.cons.inj (hfu.symm.trans hcons)
    rw [he]; exact ⟨rfl, hstu, rfl, rfl, hlu⟩
  · exact absurd (hfu.symm.trans hnil) (List.cons_ne_nil _ _)

/-- A run of `PUT`s that fits appends its bytes in order. -/
theorem run_puts (bytes : List Byte) {s : State} {rest : List Line} (hs : s.script = bytes.flatMap Script.put ++ rest)
    (hstate : s.state ≠ .polledWaitingDataOut) (hroom : s.fifo.length + bytes.length ≤ 12) :
    ∃ t, Sys2Proof.core.run (2 * bytes.length) s = .next t ∧ t.script = rest ∧ t.state = s.state ∧ t.fifo = s.fifo ++ bytes ∧
      t.log = s.log := by
  induction bytes generalizing s with
  | nil => exact ⟨s, rfl, hs, rfl, (List.append_nil _).symm, rfl⟩
  | cons b bytes ih =>
    rw [List.length_cons] at hroom
    rw [List.flatMap_cons, List.append_assoc] at hs
    obtain ⟨u, hu, hsu, hstu, hfu, hlu⟩ := run_put hs hstate (by omega)
    obtain ⟨t, ht, hst, hstt, hft, hlt⟩ := ih hsu (hstu ▸ hstate) (by rw [hfu, List.length_append, List.length_singleton]; omega)
    refine ⟨t, ?_, hst, hstt.trans hstu, by rw [hft, hfu, List.append_assoc, List.singleton_append], hlt.trans hlu⟩
    rw [List.length_cons, Nat.mul_succ, Nat.add_comm, run_add _ hu, ht]

/-- The last of `k + 1` `GET`s returns the (k+1)-th byte of the queue and leaves the bytes after it. -/
theorem run_gets (k : Nat) {s : State} {rest : List Line} (hs : s.script = (List.replicate (k + 1) Script.get).flatten ++ rest)
    (hstate : s.state ≠ .polledWaitingDataIn) (hk : k < s.fifo.length) :
    ∃ t, Sys2Proof.core.run (2 * (k + 1)) s = .next t ∧ t.result = s.fifo[k]? ∧ t.fifo = s.fifo.drop (k + 1) ∧
      t.log = s.log := by
  induction k generalizing s with
  | zero =>
    obtain ⟨b, tail, hfifo⟩ := List.exists_cons_of_length_pos hk
    obtain ⟨t, ht, -, -, hft, hrt, hlt⟩ := run_get hs hstate hfifo
    exact ⟨t, ht, by rw [hrt, hfifo]; rfl, by rw [hft, hfifo]; rfl, hlt⟩
  | succ k ih =>
    obtain ⟨b, tail, hfifo⟩ := List.exists_cons_of_length_pos (Nat.zero_lt_of_lt hk)
    rw [List.replicate_succ, List.flatten_cons, List.append_assoc] at hs
    obtain ⟨u, hu, hsu, hstu, hfu, -, hlu⟩ := run_get hs hstate hfifo
    rw [hfifo, List.length_cons] at hk
    obtain ⟨t, ht, hrt, hft, hlt⟩ := ih hsu (hstu ▸ hstate) (by rw [hfu]; omega)
    refine ⟨t, ?_, by rw [hrt, hfu, hfifo, List.getElem?_cons_succ], by rw [hft, hfu, hfifo, List.drop_succ_cons],
      hlt.trans hlu⟩
    rw [Nat.mul_succ, Nat.add_comm, run_add _ hu, ht]

/-- Settles O26: the `PUT`s fill the empty queue with the bytes, and the `GET`s take them from its head. -/
theorem queueKeepsOrder : Obligations.QueueKeepsOrder := by
  intro bytes k s rest hempty hlen hk hout hin hs
  rw [List.append_assoc] at hs
  obtain ⟨u, hu, hsu, hstu, hfu, hlu⟩ := run_puts bytes hs hout (by rw [hempty]; simpa using hlen)
  rw [hempty, List.nil_append] at hfu
  obtain ⟨t, ht, hrt, hft, hlt⟩ := run_gets k hsu (hstu ▸ hin) (hfu ▸ hk)
  exact ⟨t, (run_add _ hu).trans ht, hfu ▸ hrt, hfu ▸ hft, hlt.trans hlu⟩

/-- A row whose index is none of the 27 logs the access and returns 0 to a read (R152). -/
theorem exec_undefinedRow {row : IndexRow} (h : row.index ∉ definedIndices) (a : RegAccess) (s : State) :
    exec (row.instr a) s = .next (unknownIndex row.index a s) := by
  cases row
  case unknown1A | unknown1B | unknown1C | unknown1D | unknown1E => rfl
  case unknown20_3F p | unknown40_7F p | unknown p => rfl
  all_goals exact absurd (by decide) h

/-- The register action at an index that is none of the 27. -/
theorem registerAction_undefined {p : Index} (h : p ∉ definedIndices) (a : RegAccess) (s : State) :
    registerAction p a s = .next (unknownIndex p a s) := by
  have hrow := exec_undefinedRow (row := decodeIndex p) (by rwa [index_decodeIndex]) a s
  rw [index_decodeIndex] at hrow
  exact (exec_regidx p a s).symm.trans hrow

/-- The pointer goes up from an index that is none of the 27, for the two status indices are defined. -/
theorem nextPtr_undefined {p : Index} (h : p ∉ definedIndices) : nextPtr p = p + 1#7 :=
  nextPtr_of_ne (by rintro (rfl | rfl) <;> exact h (by decide))

/-- Settles O27: through the port by the register action at an undefined index, and for the eight rows by their definitions. -/
theorem unknownIndicesReadZeroIgnoreWrites : Obligations.UnknownIndicesReadZeroIgnoreWrites := by
  refine ⟨fun s v hp => ⟨fun hstate => ?_, fun hstate => ?_⟩, fun r hr s v => ?_, fun r hr p s v => ?_⟩
  · rw [exec_dr_register hstate, registerAction_undefined hp, mapNext_next, State.ptrAdvance, nextPtr_undefined hp]
    rfl
  · rw [exec_dw_register v hstate, registerAction_undefined hp, mapNext_next, State.ptrAdvance, nextPtr_undefined hp]
    rfl
  · simp only [unknownRegisters, List.mem_cons, List.not_mem_nil, or_false] at hr
    rcases hr with rfl | rfl | rfl | rfl | rfl <;> exact ⟨rfl, rfl⟩
  · simp only [unknownRanges, List.mem_cons, List.not_mem_nil, or_false] at hr
    rcases hr with rfl | rfl | rfl <;> exact ⟨rfl, rfl⟩

end Sys2Proof.Machine

/-! SUPPORT and PROOFS, family other: the commands (R201 to R232) and the transfer buffer (R250 to R256). -/

namespace Sys2Proof.Machine

/-! ## Commands without a transfer -/

/-- Settles O28: the meaning of each of the eighteen is the state as it is. -/
theorem acceptedCommandsDoNothing : Obligations.AcceptedCommandsDoNothing := by
  intro i hi s
  simp only [acceptedNoOps, List.mem_cons, List.not_mem_nil, or_false] at hi
  rcases hi with rfl | rfl | rfl | rfl | rfl | rfl | rfl | rfl | rfl | rfl | rfl | rfl | rfl | rfl | rfl | rfl | rfl | rfl
  all_goals rfl

/-- Settles O30, by the definition of `CmdReset()`. -/
theorem resetCommandDropsBindings : Obligations.ResetCommandDropsBindings := fun _ => rfl

/-- Settles O31: all four Selects are `CmdSelect()`, whose case of a target found binds it. -/
theorem selectBindsPresentTarget : Obligations.SelectBindsPresentTarget := by
  intro i hi s h hfound
  rw [exec_select hi]
  rcases cmdSelect_cases s with ⟨d, hd, he⟩ | ⟨hnone, -⟩
  · rw [hfound] at hd; cases hd; exact congrArg _ he
  · rw [hfound] at hnone; cases hnone

/-- Settles O32: all four Selects are `CmdSelect()`, whose case of no target only asks the bus and drops the bindings. -/
theorem selectOfAbsentTargetDropsBindings : Obligations.SelectOfAbsentTargetDropsBindings := by
  intro i hi s hnone
  rw [exec_select hi]
  rcases cmdSelect_cases s with ⟨d, hd, -⟩ | ⟨-, he⟩
  · rw [hnone] at hd; cases hd
  · exact congrArg _ he

/-! ## Transfer-Info -/

/-- A transfer is pending in the three states that wait or execute (R272). -/
theorem CtrlState.pending_iff (c : CtrlState) :
    c.pending = true ↔ c = .polledWaitingDataOut ∨ c = .polledWaitingDataIn ∨ c = .polledExecuting := by
  cases c <;> simp [CtrlState.pending]

/-- Transfer-Info with a device bound runs on the unit that the bus finds (R228). -/
theorem exec_transferInfo_bound {s : State} {d : DevHandle} {u : Option LunHandle} (hdev : s.curDev = some d)
    (hu : s.nextLun = u) : exec .opTransferInfo s = .next ((s.findLun d (unitNumber s)).transferOn u) := by
  show Host.Outcome.next s.cmdTransferInfo = _
  rcases cmdTransferInfo_cases s with ⟨d', hdev', he⟩ | ⟨hnone, -⟩
  · rw [hdev] at hdev'; cases hdev'; rw [he, hu]
  · rw [hdev] at hnone; cases hnone

/-- Settles O34: without a device the bus is not asked, and with no unit found the lookup is the last thing done. -/
theorem transferInfoWithoutUnit : Obligations.TransferInfoWithoutUnit := by
  refine ⟨fun s hnone => ?_, fun s d hdev hunit => ?_⟩
  · show Host.Outcome.next s.cmdTransferInfo = _
    rcases cmdTransferInfo_cases s with ⟨d, hdev, -⟩ | ⟨-, he⟩
    · rw [hnone] at hdev; cases hdev
    · exact congrArg _ he
  · rw [exec_transferInfo_bound hdev hunit, State.findLun, hunit]
    rfl

/-- Settles O35: of the four cases of Transfer-Info after the lookup only the unsupported mode meets the premises. -/
theorem transferInfoUnsupportedMode : Obligations.TransferInfoUnsupportedMode := by
  intro s d u hdev hunit hmode
  rw [exec_transferInfo_bound hdev hunit]
  rcases transferOn_cases (some u) (s.findLun d (unitNumber s)) with
    ⟨hnone, -⟩ | ⟨_, ⟨⟩, -, he⟩ | ⟨_, -, hpolled, -⟩ | ⟨_, -, hpolled, -⟩
  · cases hnone
  · rw [he, State.findLun, hunit]; rfl
  · exact absurd hpolled hmode
  · exact absurd hpolled hmode

/-- Settles O36: of the four cases of Transfer-Info after the lookup only the fill meets the premises. -/
theorem transferInfoStartsDataOut : Obligations.TransferInfoStartsDataOut := by
  intro s d u hdev hunit hmode hphase
  refine ⟨List.replicate s.transferCount.toNat 0x00#8, List.length_replicate, ?_⟩
  rw [exec_transferInfo_bound hdev hunit]
  rcases transferOn_cases (some u) (s.findLun d (unitNumber s)) with
    ⟨hnone, -⟩ | ⟨_, -, hother, -⟩ | ⟨_, ⟨⟩, -, -, he⟩ | ⟨_, -, -, hin, -⟩
  · cases hnone
  · exact absurd hmode hother
  · rw [he, State.findLun, hunit]
    simp only [← CtrlState.pending_iff]
    rfl
  · exact absurd (hphase.symm.trans hin) (by decide)

/-- Settles O37: of the four cases of Transfer-Info after the lookup only the drain meets the premises. -/
theorem transferInfoStartsDataIn : Obligations.TransferInfoStartsDataIn := by
  intro s d u h len data hdev hunit hmode hphase hread
  have hread' : (s.findLun d (unitNumber s)).nextRead = (h, len, data) := hread
  refine ⟨?_, ?_⟩
  · have hfresh := nextRead_fresh (s.findLun d (unitNumber s))
    rw [hread'] at hfresh
    exact hfresh
  rw [exec_transferInfo_bound hdev hunit]
  rcases transferOn_cases (some u) (s.findLun d (unitNumber s)) with
    ⟨hnone, -⟩ | ⟨_, -, hother, -⟩ | ⟨_, -, -, hout, -⟩ | ⟨_, ⟨⟩, -, -, he⟩
  · cases hnone
  · exact absurd hmode hother
  · exact absurd (hphase.symm.trans hout) (by decide)
  · rw [he, hread']
    simp only [← CtrlState.pending_iff]
    rw [State.findLun, hunit]
    rfl

/-! ## The transfer buffer, one access -/

/-- Settles O39: the case of an append that leaves room. -/
theorem interceptedWriteAppends : Obligations.InterceptedWriteAppends := by
  intro s v hstate hpos
  rw [exec_dw_intercepted v hstate]
  rcases xferAppend_cases v s with ⟨-, he⟩ | ⟨hlast, -⟩ | ⟨hpast, -⟩
  · rw [he]; rfl
  · omega
  · omega

/-- Settles O40: the case of an append that fills the buffer, whose first `size` bytes are all of it. -/
theorem interceptedWriteSubmits : Obligations.InterceptedWriteSubmits := by
  intro s v h len hstate hpos hlength hrequest
  refine ⟨?_, ?_⟩
  · have hfresh := nextRequest_fresh s
    rw [hrequest] at hfresh
    exact hfresh
  have hrequest' : ({ s with buf := s.buf.set s.pos v, pos := s.pos + 1 } : State).nextRequest = (h, len) := hrequest
  have hall : (s.buf.set s.pos v).take s.size = s.buf.set s.pos v :=
    List.take_of_length_le (by rw [List.length_set]; exact Nat.le_of_eq hlength)
  rw [exec_dw_intercepted v hstate]
  rcases xferAppend_cases v s with ⟨hroom, -⟩ | ⟨-, he⟩ | ⟨hpast, -⟩
  · omega
  · rw [he, mapNext_next, xferSubmit_eq, hrequest']
    simp only [hall, hpos]
    rfl
  · omega

/-- Settles O41: the case of an append past the end. -/
theorem interceptedWriteOutOfRangeFaults : Obligations.InterceptedWriteOutOfRangeFaults := by
  intro s v hstate hpos
  rw [exec_dw_intercepted v hstate]
  rcases xferAppend_cases v s with ⟨hroom, -⟩ | ⟨hlast, -⟩ | ⟨-, he⟩
  · omega
  · omega
  · rw [he]; rfl

/-- Settles O42: the two cases of a fetch, told apart by the cursor. -/
theorem interceptedReadFetchesOrFaults : Obligations.InterceptedReadFetchesOrFaults := by
  intro s hstate
  rw [exec_dr_intercepted hstate]
  rcases xferFetch_cases s with ⟨b, hpos, hb, he⟩ | ⟨hpast, he⟩
  · refine ⟨fun b' _ hb' => ?_, fun hpast => absurd hpos (Nat.not_lt.mpr hpast)⟩
    obtain rfl : b = b' := Option.some.inj (hb.symm.trans hb')
    rw [he]; rfl
  · refine ⟨fun b hpos hb => ?_, fun _ => by rw [he]; rfl⟩
    have hlength := (List.getElem?_eq_some_iff.mp hb).1
    omega

/-! ## The transfer buffer from end to end -/

/-- A line `DW v` that leaves room in the buffer. -/
theorem step_dw_append {s : State} {v : Byte} {rest : List Line} (hs : s.script = .dw v :: rest)
    (hstate : s.state = .polledWaitingDataOut) (hroom : s.pos + 1 < s.size) :
    step s = .next { s with
      script := rest, result := none, buf := s.buf.set s.pos v, pos := s.pos + 1, ptr := nextPtr s.ptr } :=
  (step_cons hs (decodeLine_dw v)).trans (interceptedWriteAppends (s.takeLine rest) v hstate hroom)

/-- A line `DW v` that fills the buffer. -/
theorem step_dw_submit {s : State} {v : Byte} {rest : List Line} {h : ReqHandle} {len : Int} (hs : s.script = .dw v :: rest)
    (hstate : s.state = .polledWaitingDataOut) (hlast : s.pos + 1 = s.size) (hlength : s.buf.length = s.size)
    (hrequest : s.nextRequest = (h, len)) :
    step s = .next { s with
      script := rest, result := none, buf := s.buf.set s.pos v, pos := s.size, curReq := some h, state := .polledExecuting,
      outstanding := addOutstanding len s.outstanding, issued := h :: s.issued,
      reqAnswers := s.reqAnswers.tail, busCalls := s.busCalls + 1,
      busTrace := s.busTrace ++ [.enqueueRequest s.curLun (s.buf.set s.pos v) s.size h len], ptr := nextPtr s.ptr } :=
  (step_cons hs (decodeLine_dw v)).trans
    (interceptedWriteSubmits (s.takeLine rest) v h len hstate hlast hlength hrequest).2

/-- Where a buffer holds `stored` and then bytes not yet written, as many as the lines `DW` to come, those lines store theirs after
`stored` and submit the whole. -/
theorem run_fill (bytes : List Byte) {s : State} {rest : List Line} {h : ReqHandle} {len : Int} {stored stale : List Byte}
    (hne : bytes ≠ []) (hstate : s.state = .polledWaitingDataOut) (hpos : s.pos = stored.length)
    (hsize : s.size = stored.length + bytes.length) (hbuf : s.buf = stored ++ stale) (hstale : stale.length = bytes.length)
    (hrequest : s.nextRequest = (h, len)) (hs : s.script = bytes.map Line.dw ++ rest) :
    ∃ p, Sys2Proof.core.run bytes.length s = .next { s with
      script := rest, result := none, buf := stored ++ bytes, pos := s.size, curReq := some h, state := .polledExecuting,
      outstanding := addOutstanding len s.outstanding, issued := h :: s.issued,
      reqAnswers := s.reqAnswers.tail, busCalls := s.busCalls + 1,
      busTrace := s.busTrace ++ [.enqueueRequest s.curLun (stored ++ bytes) s.size h len], ptr := p } := by
  induction bytes generalizing s stored stale with
  | nil => exact absurd rfl hne
  | cons b bytes ih =>
    obtain ⟨x, stale', rfl⟩ := List.exists_cons_of_length_eq_add_one hstale
    have hset : s.buf.set s.pos b = stored ++ b :: stale' := by simp [hbuf, hpos]
    rw [List.length_cons] at hsize hstale
    cases bytes with
    | nil =>
      obtain rfl : stale' = [] := by simpa using hstale
      have hlength : s.buf.length = s.size := by simp [hbuf, hsize]
      have hstep := step_dw_submit hs hstate (by rw [hsize, hpos]; rfl) hlength hrequest
      rw [hset] at hstep
      exact ⟨nextPtr s.ptr, run_one hstep⟩
    | cons b' bytes =>
      rw [List.length_cons] at hsize
      have hstep := step_dw_append hs hstate (by omega)
      rw [hset, List.append_cons] at hstep
      obtain ⟨p, hrun⟩ := ih (s := { s with
          script := (b' :: bytes).map Line.dw ++ rest, result := none, buf := stored ++ [b] ++ stale', pos := s.pos + 1,
          ptr := nextPtr s.ptr })
        (List.cons_ne_nil _ _) hstate (by simp [hpos]) (by simp [hsize]; omega) rfl (by simpa using hstale) hrequest rfl
      refine ⟨p, (run_next hstep).trans (hrun.trans ?_)⟩
      simp only [List.append_assoc, List.singleton_append]

/-- Settles O43: the fill from a buffer of which nothing is stored yet. -/
theorem polledDataOutSubmitsBytesWritten : Obligations.PolledDataOutSubmitsBytesWritten := by
  intro bytes s rest h len hne hstate hpos hsize hlength hrequest hs
  obtain ⟨p, hrun⟩ := run_fill (stored := []) bytes hne hstate hpos (by simpa using hsize) (List.nil_append _).symm
    (hlength.trans hsize) hrequest hs
  refine ⟨_, hrun, rfl, rfl, rfl, rfl, rfl, rfl, rfl, rfl, ?_, rfl, rfl, rfl, rfl⟩
  simp only [hsize, List.nil_append]

/-- A line `DR` with the cursor inside the buffer. -/
theorem step_dr_fetch {s : State} {rest : List Line} (hs : s.script = .dr :: rest) (hstate : s.state = .polledWaitingDataIn)
    (hpos : s.pos < s.size) (hlength : s.buf.length = s.size) :
    step s = .next { s with script := rest, result := s.buf[s.pos]?, pos := s.pos + 1, ptr := nextPtr s.ptr } := by
  have hb : s.buf[s.pos]? = some (s.buf[s.pos]'(hlength ▸ hpos)) := List.getElem?_eq_getElem _
  obtain ⟨hfetch, -⟩ := interceptedReadFetchesOrFaults (s.takeLine rest) hstate
  rw [step_cons hs decodeLine_dr, hfetch _ hpos hb, hb]
  rfl

/-- A line `DR` with the cursor at the end of the buffer. -/
theorem step_dr_past {s : State} {rest : List Line} (hs : s.script = .dr :: rest) (hstate : s.state = .polledWaitingDataIn)
    (hpos : s.size ≤ s.pos) : step s = .fault .xferOutOfRange :=
  (step_cons hs decodeLine_dr).trans ((interceptedReadFetchesOrFaults (s.takeLine rest) hstate).2 hpos)

/-- As many lines `DR` as the buffer has bytes left move the cursor past them and change nothing else but the pointer and the
returned byte. -/
theorem run_drain (n : Nat) {s : State} {rest : List Line} (hstate : s.state = .polledWaitingDataIn)
    (hpos : s.pos + n ≤ s.size) (hlength : s.buf.length = s.size) (hs : s.script = List.replicate n Line.dr ++ rest) :
    ∃ p r, Sys2Proof.core.run n s = .next { s with script := rest, result := r, pos := s.pos + n, ptr := p } := by
  induction n generalizing s with
  | zero =>
    obtain rfl : s.script = rest := hs
    exact ⟨s.ptr, s.result, rfl⟩
  | succ n ih =>
    have hstep := step_dr_fetch hs hstate (by omega) hlength
    obtain ⟨p, r, hrun⟩ := ih (s := { s with
        script := List.replicate n Line.dr ++ rest, result := s.buf[s.pos]?, pos := s.pos + 1, ptr := nextPtr s.ptr })
      hstate (by simp only; omega) hlength rfl
    refine ⟨p, r, (run_next hstep).trans (hrun.trans ?_)⟩
    simp only [Nat.add_assoc, Nat.add_comm 1 n]

/-- Settles O44: the reads before move the cursor to the byte, or past the last. -/
theorem polledDataInReturnsBytesThenFaults : Obligations.PolledDataInReturnsBytesThenFaults := by
  intro s rest hstate hpos hlength hs
  refine ⟨fun k hk => ?_, ?_⟩
  · obtain ⟨m, hm⟩ : ∃ m, s.size + 1 = k + (m + 1) := ⟨s.size - k, by omega⟩
    rw [hm, List.replicate_add, List.append_assoc] at hs
    obtain ⟨p, r, hrun⟩ := run_drain k hstate (by omega) hlength hs
    rw [hpos, Nat.zero_add] at hrun
    exact ⟨_, (run_add 1 hrun).trans (run_one (step_dr_fetch rfl hstate hk hlength)), rfl, rfl, hstate, rfl, rfl⟩
  · rw [List.replicate_add, List.append_assoc] at hs
    obtain ⟨p, r, hrun⟩ := run_drain s.size hstate (by omega) hlength hs
    rw [hpos, Nat.zero_add] at hrun
    exact (run_add 1 hrun).trans (run_fault (step_dr_past rfl hstate (Nat.le_refl _)))

end Sys2Proof.Machine
